-- ==== Sys2Proof/Word.lean ====
section
/-! DEFINITION. The word types of the engine (spec/00_scope.md R6, R9): an 8-bit byte, a 32-bit word, the
8-byte string that a key or a block is, and the 32-word key schedule. The byte index of a byte string is the
spec's own: index 0 is the first byte. -/

namespace Sys2Proof

/-- A byte, bits 7..0, bit 0 least significant (R9). -/
abbrev Byte := BitVec 8

/-- A data word, bits 31..0, bit 0 least significant (R6, R9). -/
abbrev Word := BitVec 32

/-- A byte string of 8 bytes, `b[0]` the first (R9): a CipherKey or a Block (R6, R14). -/
abbrev Bytes8 := Vector Byte 8

/-- A KeySchedule: "32 32-bit words" (R6, R14). -/
abbrev KeySched := Vector Word 32

/-- The 8-byte string of zeros. -/
def Bytes8.zero : Bytes8 := Vector.replicate 8 0

/-- The erased schedule: zero in every word (R26). -/
def KeySched.zero : KeySched := Vector.replicate 32 0

/-- Byte-wise complement of a byte string (the `~` of R182). -/
def Bytes8.compl (b : Bytes8) : Bytes8 := Vector.ofFn fun i => ~~~b[i]

end Sys2Proof
end

