-- ==== Sys2Proof/Syntax.lean ====
section
/-! DEFINITION. The commands of the engine (spec/30_encoding.md R72): one constructor for each row of
spec/opcode_table.json. No command has an operand field; every operand is implicit (R74). -/

namespace Sys2Proof

/-- The seven commands a host can write to CTRL (R72). -/
inductive Instr where
  /-- NOP, byte 0x00 (R201). -/
  | nop
  /-- ENCRYPT, byte 0x02 (R202). -/
  | encrypt
  /-- DECRYPT, byte 0x03 (R203). -/
  | decrypt
  /-- KSLOAD.E, byte 0x04 (R204). -/
  | ksloadE
  /-- KSLOAD.D, byte 0x05 (R205). -/
  | ksloadD
  /-- TRANSFORM, byte 0x06 (R206). -/
  | transform
  /-- KSERASE, byte 0x08 (R207). -/
  | kserase
  deriving DecidableEq, Repr

end Sys2Proof
end

