-- ==== Sys2Proof/WellFormed.lean ====
section
/-! DEFINITION. When the fields of a command byte are well formed (spec/30_encoding.md R70): Z must be 0000, OP must not be
reserved, and D must be 0 for every OP but CRYPT and KSLOAD. A command has no operand field (R74), so these three checks
are all there is. -/

namespace Sys2Proof

/-- The fields of a command byte: Z = c[7:4], OP = c[3:1], D = c[0] (R70). -/
structure CommandFields where
  /-- Bits 7:4, must be 0000. -/
  z : BitVec 4
  /-- Bits 3:1, the operation. -/
  op : BitVec 3
  /-- Bit 0, the direction. -/
  d : BitVec 1
  deriving DecidableEq, Repr

namespace CommandFields

/-- "must be 0000" (R70, field Z). -/
def zIsZero (f : CommandFields) : Bool := f.z == 0

/-- OP is not one of the reserved codes 101 to 111 (R70). -/
def opDefined (f : CommandFields) : Bool := f.op.toNat ≤ 4

/-- D "must be 0 for every other OP" than CRYPT (001) and KSLOAD (010) (R70). -/
def dAllowed (f : CommandFields) : Bool := f.d == 0 || f.op == 1 || f.op == 2

/-- All three checks of R70. -/
def wellFormed (f : CommandFields) : Bool := f.zIsZero && f.opDefined && f.dAllowed

end CommandFields
end Sys2Proof
end

