-- ==== Sys2Proof/Decode.lean ====
section
/-! DEFINITION. Decoding (spec/30_encoding.md R70-R75): a total function from any bytes to a command or a rejection by
name, and after it the encoder. The rejections here are the DECODER's answers; the engine's answer to an undecodable byte
written to CTRL is ILLEGAL_CMD (R73, R208), which `Machine.illegalCommand` gives. -/

namespace Sys2Proof

/-- Why bytes are no command. -/
inductive DecodeError where
  /-- No byte at all: every command is one byte long (R70, R75). -/
  | noByte
  /-- More than one byte: "Wider writes to CTRL do not exist" (R75). -/
  | tooLong
  /-- Z is not 0000 (R70). -/
  | zNotZero
  /-- OP is a reserved code, 101 to 111 (R70). -/
  | opReserved
  /-- D is 1 for an OP that is not direction-aware (R70). -/
  | directionNotAllowed
  deriving DecidableEq, Repr

/-- The fields of a byte (R70). -/
def splitFields (c : Byte) : CommandFields :=
  { z := c.extractLsb' 4 4, op := c.extractLsb' 1 3, d := c.extractLsb' 0 1 }

/-- The byte of the fields (R70). -/
def joinFields (f : CommandFields) : Byte := f.z ++ f.op ++ f.d

/-- `decode` of R71, with the reason where it answers `none`. -/
def decodeByte (c : Byte) : Except DecodeError Instr :=
  let f := splitFields c
  if f.z.toNat = 0 then
    match f.op.toNat, f.d.toNat with
    | 0, 0 => .ok .nop
    | 1, 0 => .ok .encrypt
    | 1, 1 => .ok .decrypt
    | 2, 0 => .ok .ksloadE
    | 2, 1 => .ok .ksloadD
    | 3, 0 => .ok .transform
    | 4, 0 => .ok .kserase
    | op, _ => if op ≤ 4 then .error .directionNotAllowed else .error .opReserved
  else .error .zNotZero

/-- Decoding of any string of bytes: a command is exactly one byte (R70, R75). -/
def decodeBytes : List Byte → Except DecodeError Instr
  | [] => .error .noByte
  | [c] => decodeByte c
  | _ :: _ :: _ => .error .tooLong

/-- The fields of each command, the columns OP and D of the opcode map (R72). -/
def encodeFields : Instr → CommandFields
  | .nop => ⟨0, 0, 0⟩
  | .encrypt => ⟨0, 1, 0⟩
  | .decrypt => ⟨0, 1, 1⟩
  | .ksloadE => ⟨0, 2, 0⟩
  | .ksloadD => ⟨0, 2, 1⟩
  | .transform => ⟨0, 3, 0⟩
  | .kserase => ⟨0, 4, 0⟩

/-- The command byte of each command (R72). -/
def encodeByte (i : Instr) : Byte := joinFields (encodeFields i)

/-- The bytes of a command: one byte (R75). -/
def encode (i : Instr) : List Byte := [encodeByte i]

/-- A command is well formed when its fields are (R70). -/
def Instr.wellFormed (i : Instr) : Bool := (encodeFields i).wellFormed

/-- The bytes of a table word of `nbits` bits (a whole number of bytes), bits 7..0 the first byte. -/
def wordBytes (nbits w : Nat) : List Byte :=
  (List.range (nbits / 8)).map fun k => BitVec.ofNat 8 (w >>> (8 * k))

/-- The instruction the decoder reads from a row's word as spec/opcode_table.json numbers its bits. -/
def decodeTableWord (nbits w : Nat) : Option Instr := (decodeBytes (wordBytes nbits w)).toOption

end Sys2Proof
end

