-- ==== Sys2Proof/Machine/Bits.lean ====
section
/-! DEFINITION. The word operators of spec/00_scope.md R11 and the bit-position numbering of R10. Every operation is on
unsigned values; there is no signed arithmetic, carry or addition in any cipher rule (R11, R178). -/

namespace Sys2Proof.Machine

/-- `rotl(x, n) = ((x << n) | (x >> (32 - n))) mod 2^32` for n from 0 to 31; for n = 0 the right shift gives 0 and the
value is x (R11). -/
def rotl (x : Word) (n : Nat) : Word := (x <<< n) ||| (x >>> (32 - n))

/-- `rotr(x, n) = rotl(x, (32 - n) mod 32)` (R11). -/
def rotr (x : Word) (n : Nat) : Word := rotl x ((32 - n) % 32)

/-- The bit at 1-based position p of an n-bit value, position 1 the most significant: bit `n - p` (R10). -/
def bitAt {n : Nat} (x : BitVec n) (p : Nat) : Bool := x.getLsbD (n - p)

/-- The m-bit value whose position i (1 to m) is position `table[i]` of x (R10, R107, R111-R113). -/
def permute {n : Nat} (table : List Nat) (m : Nat) (x : BitVec n) : BitVec m :=
  BitVec.ofFnLE fun b => bitAt x (table.getD (m - 1 - b.val) 0)

/-- A one-bit value as a byte. -/
def bitByte (b : Bool) : Byte := if b then 1 else 0

end Sys2Proof.Machine
end

