-- ==== Sys2Proof/Config.lean ====
section
/-! DEFINITION. What the platform or the implementation fixes and the spec leaves open
(spec/00_scope.md R8, spec/93_implementation_defined.md PA1, PA2), and the free values of the units' working state
(spec/10_state.md R29, X5). Every open value is an opaque constant with no body, so nothing can be proved of its value. -/

namespace Sys2Proof

/-- The operations that go busy: the OP field of a command in flight (R28, R70). NOP never goes busy (R200), so
it is not among them. -/
inductive BusyOp where
  /-- OP = 001, ENCRYPT and DECRYPT. -/
  | crypt
  /-- OP = 010, KSLOAD.E and KSLOAD.D. -/
  | ksload
  /-- OP = 011, TRANSFORM. -/
  | transform
  /-- OP = 100, KSERASE. -/
  | kserase
  deriving DecidableEq, Repr

namespace Config

/-- `ENGINE_BASE`, the host address of the 32-byte window (R8, R50, PA1): OPEN in the spec. -/
opaque engineBase : Nat

/-- How many cycles beyond the first a busy command takes: OPEN in the spec (R8, R277, PA2). -/
opaque waitCycles : BusyOp → Nat

/-- `cmd_cycles(op)`, a natural number at least 1 that depends on `op` alone (R8, R277, PA2). -/
def cmdCycles (op : BusyOp) : Nat := waitCycles op + 1

/-- Free values of the working state of the units while a command is in flight (R29, X5 "any value"): each
is applied to the counter `State.freeCount`. -/
opaque freePc1m : Nat → Vector Bool 56
/-- Free value of the rotated 56-bit key array (R29, X5). -/
opaque freePcr : Nat → Vector Bool 56
/-- Free value of the raw subkey words (R29, R129, X5). -/
opaque freeRaw : Nat → KeySched
/-- Free value of the half L (R29, X5). -/
opaque freeHalfL : Nat → Word
/-- Free value of the half R (R29, X5). -/
opaque freeHalfR : Nat → Word
/-- Free value of the round counter (R29, X5). -/
opaque freeRound : Nat → Nat

/-- The default key `17 52 6B 06 23 4E 58 07` (R20, R260, R264, V1a). -/
def defaultKey : Bytes8 := #v[0x17, 0x52, 0x6B, 0x06, 0x23, 0x4E, 0x58, 0x07]

end Config
end Sys2Proof
end

