-- ==== Sys2Proof/Machine/State.lean ====
section
/-! DEFINITION. The state of the machine as plain data (spec/10_state.md R20-R32), the reasons a step can stop, and the state
after reset (spec/70_reset_and_hazards.md R260). The engine has no memory, program counter, mode, flag register or
register bank beyond what stands here (R21, R32, R50). -/

namespace Sys2Proof.Machine

/-- One host access to the register window, as R12 writes it: `MemRead(off, n)` and `MemWrite(off, n, v)`. The width n
and the offset are given as numbers so that an access of another width, or beyond offset 31, can be written down and
refused by name (R54, R214, X1, X2). -/
inductive Access where
  /-- A read of `bytes` bytes at offset `off`. -/
  | read (off bytes : Nat)
  /-- A write of the bytes `data` at offset `off`; the access is as wide as the list is long. -/
  | write (off : Nat) (data : List Byte)
  deriving DecidableEq, Repr

/-- What the outside world does in one clock cycle: the level of `rst`, and at most one access (R51). -/
structure PortCycle where
  /-- `rst` is sampled 1 at the edge that ends this cycle. -/
  rst : Bool
  /-- The access of this cycle: `none` is `sel` = 0. -/
  access : Option Access
  deriving DecidableEq, Repr

/-- The command in flight (R28). -/
structure Pending where
  /-- The decoded OP field. -/
  op : BusyOp
  /-- The decoded D field, `false` = encrypt. -/
  d : Bool
  /-- KEY as it stood at issue. -/
  keysnap : Bytes8
  /-- DIN as it stood at issue. -/
  dinsnap : Bytes8
  /-- Clock cycles left until completion. -/
  remaining : Nat
  deriving DecidableEq, Repr

/-- The working state of the units (R29, R129): "the 56-bit intermediate key arrays of key generation, the halves L and R of
the block transform, and the round counter", with the raw words. Unobservable, zero at completion and at reset. -/
structure Work where
  /-- The PC1 output array. -/
  pc1m : Vector Bool 56
  /-- The rotated array. -/
  pcr : Vector Bool 56
  /-- The raw subkey words. -/
  raw : KeySched
  /-- The left half. -/
  halfL : Word
  /-- The right half. -/
  halfR : Word
  /-- The round counter. -/
  round : Nat
  deriving DecidableEq, Repr

/-- Working state all zero (R29, R212, R260). -/
def Work.zero : Work :=
  { pc1m := Vector.replicate 56 false, pcr := Vector.replicate 56 false, raw := KeySched.zero,
    halfL := 0, halfR := 0, round := 0 }

/-- The whole state (R32), with the working state of R29, the host port's pending cycles and last read value (R51), and
the model's own counter of free values. -/
structure State where
  /-- KEY[0..7], write-only to the host (R20). -/
  key : Bytes8
  /-- DIN[0..7], read/write (R22). -/
  din : Bytes8
  /-- DOUT[0..7], read-only (R23). -/
  dout : Bytes8
  /-- KS[0..31], invisible to the host (R26). -/
  ks : KeySched
  /-- KS holds a loaded schedule (R27). -/
  ksv : Bool
  /-- The direction of the loaded schedule, `false` = encrypt (R27). -/
  ksdir : Bool
  /-- STATUS.DONE (R25). -/
  done : Bool
  /-- STATUS.ERRCODE (R25, R230). -/
  err : BitVec 3
  /-- The command in flight; STATUS.BUSY is `pend.isSome` (R28). -/
  pend : Option Pending
  /-- The working state of the units (R29). -/
  work : Work
  /-- What `rdata` returned in the cycle just past: `none` where that cycle had no read (R51). -/
  rdata : Option Byte
  /-- The cycles the outside world drives next, oldest first; an empty list is an idle port (R51, R60). -/
  port : List PortCycle
  /-- The model's own counter: how many free values of the working state have been drawn. -/
  freeCount : Nat
  deriving DecidableEq, Repr

/-- No step of the engine faults: "No step faults or sticks. Every byte value and every offset has a defined answer" (R214).
The type has no constructor. -/
inductive Fault where
  deriving DecidableEq, Repr

/-- Why a step is refused: no meaning for what the outside world asks. -/
inductive Refusal where
  /-- A command that has no meaning yet, by its mnemonic: no arm of `exec` raises it in this model (safe). -/
  | notModelled (mnemonic : String)
  /-- Raised by `clockCycle` for a host access of another width than one byte (R54, X1: "refuse"): safe, the
  hardware has no such transaction. -/
  | accessWidth (bytes : Nat)
  /-- Raised by `clockCycle` for a host access at an offset above 31 (R214, X2: "refuse"): safe, such an address
  does not reach the engine. -/
  | offsetOutsideWindow (off : Nat)
  deriving DecidableEq, Repr

/-- The state after reset (R260), with an idle port and the free-value counter at 0 (notes/assumptions/3.md). -/
def State.reset : State :=
  { key := Config.defaultKey
    din := Bytes8.zero
    dout := Bytes8.zero
    ks := KeySched.zero
    ksv := false
    ksdir := false
    done := false
    err := 0
    pend := none
    work := Work.zero
    rdata := none
    port := []
    freeCount := 0 }

end Sys2Proof.Machine
end

