-- ==== Sys2Proof/Machine/Flags.lean ====
section
/-! DEFINITION. The status register and the error codes (spec/10_state.md R25, R32; spec/60_exceptions.md R230-R232). The engine
has no other flag or condition code (R32). -/

namespace Sys2Proof.Machine

/-- The engine's three error conditions (R230). -/
inductive EngineError where
  /-- An undecodable command byte, written while not busy (R208). -/
  | illegalCmd
  /-- TRANSFORM issued with ksv = 0 (R206). -/
  | noSchedule
  /-- A write to CTRL, KEY or DIN while busy (R213). -/
  | writeWhileBusy
  deriving DecidableEq, Repr

/-- The code each error records; code 0 is NONE, codes 4 to 7 are never raised (R230). -/
def errorCode : EngineError → BitVec 3
  | .illegalCmd => 1
  | .noSchedule => 2
  | .writeWhileBusy => 3

/-- `raise EngineError(code)`: the first error since the last accepted CTRL write is kept (R231). This is all that taking
an error is: there is no trap, no saved state and no handler (R232, R236). -/
def raise (e : EngineError) (s : State) : State :=
  { s with err := if s.err = 0 then errorCode e else s.err }

/-- STATUS.BUSY: a command is in flight (R25, R28). -/
def busy (s : State) : Bool := s.pend.isSome

/-- STATUS as the host reads it: `zext_8(err << 4 | ksdir << 3 | ksv << 2 | done << 1 | busy)` (R25, R32). -/
def status (s : State) : Byte :=
  (s.err.zeroExtend 8 <<< 4) ||| (bitByte s.ksdir <<< 3) ||| (bitByte s.ksv <<< 2) |||
  (bitByte s.done <<< 1) ||| bitByte (busy s)

/-- `done <- 0; err <- 0`, the first action of every accepted CTRL write (R211). -/
def clearStatus (s : State) : State := { s with done := false, err := 0 }

/-- `done <- 1` (R25, R211, R212). -/
def setDone (s : State) : State := { s with done := true }

end Sys2Proof.Machine
end

