-- ==== Sys2Proof/Machine/Operands.lean ====
section
/-! DEFINITION. The operands of the commands (spec/30_encoding.md R72, R74): every operand is implicit, KEY and DIN as they stand at
issue (spec/10_state.md R28), and KS for TRANSFORM, read at completion (spec/45_commands.md R200). -/

namespace Sys2Proof.Machine

/-- The record a command in flight carries from its issue: the decoded fields, the snapshots of KEY and DIN, and the
cycles left (R28, R211). -/
def snapshot (op : BusyOp) (d : Bool) (s : State) : Pending :=
  { op := op, d := d, keysnap := s.key, dinsnap := s.din, remaining := Config.cmdCycles op }

end Sys2Proof.Machine
end

