-- ==== Sys2Proof/Machine/Tables.lean ====
section
/-! DEFINITION. The constant tables of spec/40_tables.md (R100-R113), entry for entry as that file prints them.
They are constants, not state (R30): no command, reset or host access changes them. Long tables are written in pieces
joined by `++`. The 0-based tables (PC1, PC2, TOTROT, BYTEBIT, BIGBYTE) are indexed as R101-R105 say; the 1-based ones
(P, IP, FP, E) list the input position of output position 1, 2, ... (R10). -/

namespace Sys2Proof.Machine

/-- PC1, the 56-bit key selection, 0-based key bit indices (R101). -/
def PC1 : List Nat :=
  [56, 48, 40, 32, 24, 16, 8, 0, 57, 49, 41, 33, 25, 17] ++
  [9, 1, 58, 50, 42, 34, 26, 18, 10, 2, 59, 51, 43, 35] ++
  [62, 54, 46, 38, 30, 22, 14, 6, 61, 53, 45, 37, 29, 21] ++
  [13, 5, 60, 52, 44, 36, 28, 20, 12, 4, 27, 19, 11, 3]

/-- BYTEBIT, the bit masks of the VNC variant: `1 << m` (R102). -/
def BYTEBIT (m : Nat) : Byte := 1 <<< m

/-- TOTROT, the cumulative left rotation of both 28-bit halves before round i (R103). -/
def TOTROT : List Nat :=
  [1, 2, 4, 6, 8, 10, 12, 14] ++
  [15, 17, 19, 21, 23, 25, 27, 28]

/-- PC2, the 48-bit compression, 0-based indices into the rotated array (R104). -/
def PC2 : List Nat :=
  [13, 16, 10, 23, 0, 4, 2, 27, 14, 5, 20, 9] ++
  [22, 18, 11, 3, 25, 7, 15, 6, 26, 19, 12, 1] ++
  [40, 51, 30, 36, 46, 54, 29, 39, 50, 44, 32, 47] ++
  [43, 48, 38, 55, 33, 52, 45, 41, 49, 35, 28, 31]

/-- BIGBYTE, the masks that place the 24 selected bits of a half into a raw word: `1 << (23 - j)` (R105). -/
def BIGBYTE (j : Nat) : Word := 1 <<< (23 - j)

/-- The substitution box S1, rows 0 to 3 one after another (R106). -/
def S1 : List Nat :=
  [14, 4, 13, 1, 2, 15, 11, 8, 3, 10, 6, 12, 5, 9, 0, 7] ++
  [0, 15, 7, 4, 14, 2, 13, 1, 10, 6, 12, 11, 9, 5, 3, 8] ++
  [4, 1, 14, 8, 13, 6, 2, 11, 15, 12, 9, 7, 3, 10, 5, 0] ++
  [15, 12, 8, 2, 4, 9, 1, 7, 5, 11, 3, 14, 10, 0, 6, 13]

/-- The substitution box S2, rows 0 to 3 one after another (R106). -/
def S2 : List Nat :=
  [15, 1, 8, 14, 6, 11, 3, 4, 9, 7, 2, 13, 12, 0, 5, 10] ++
  [3, 13, 4, 7, 15, 2, 8, 14, 12, 0, 1, 10, 6, 9, 11, 5] ++
  [0, 14, 7, 11, 10, 4, 13, 1, 5, 8, 12, 6, 9, 3, 2, 15] ++
  [13, 8, 10, 1, 3, 15, 4, 2, 11, 6, 7, 12, 0, 5, 14, 9]

/-- The substitution box S3, rows 0 to 3 one after another (R106). -/
def S3 : List Nat :=
  [10, 0, 9, 14, 6, 3, 15, 5, 1, 13, 12, 7, 11, 4, 2, 8] ++
  [13, 7, 0, 9, 3, 4, 6, 10, 2, 8, 5, 14, 12, 11, 15, 1] ++
  [13, 6, 4, 9, 8, 15, 3, 0, 11, 1, 2, 12, 5, 10, 14, 7] ++
  [1, 10, 13, 0, 6, 9, 8, 7, 4, 15, 14, 3, 11, 5, 2, 12]

/-- The substitution box S4, rows 0 to 3 one after another (R106). -/
def S4 : List Nat :=
  [7, 13, 14, 3, 0, 6, 9, 10, 1, 2, 8, 5, 11, 12, 4, 15] ++
  [13, 8, 11, 5, 6, 15, 0, 3, 4, 7, 2, 12, 1, 10, 14, 9] ++
  [10, 6, 9, 0, 12, 11, 7, 13, 15, 1, 3, 14, 5, 2, 8, 4] ++
  [3, 15, 0, 6, 10, 1, 13, 8, 9, 4, 5, 11, 12, 7, 2, 14]

/-- The substitution box S5, rows 0 to 3 one after another (R106). -/
def S5 : List Nat :=
  [2, 12, 4, 1, 7, 10, 11, 6, 8, 5, 3, 15, 13, 0, 14, 9] ++
  [14, 11, 2, 12, 4, 7, 13, 1, 5, 0, 15, 10, 3, 9, 8, 6] ++
  [4, 2, 1, 11, 10, 13, 7, 8, 15, 9, 12, 5, 6, 3, 0, 14] ++
  [11, 8, 12, 7, 1, 14, 2, 13, 6, 15, 0, 9, 10, 4, 5, 3]

/-- The substitution box S6, rows 0 to 3 one after another (R106). -/
def S6 : List Nat :=
  [12, 1, 10, 15, 9, 2, 6, 8, 0, 13, 3, 4, 14, 7, 5, 11] ++
  [10, 15, 4, 2, 7, 12, 9, 5, 6, 1, 13, 14, 0, 11, 3, 8] ++
  [9, 14, 15, 5, 2, 8, 12, 3, 7, 0, 4, 10, 1, 13, 11, 6] ++
  [4, 3, 2, 12, 9, 5, 15, 10, 11, 14, 1, 7, 6, 0, 8, 13]

/-- The substitution box S7, rows 0 to 3 one after another (R106). -/
def S7 : List Nat :=
  [4, 11, 2, 14, 15, 0, 8, 13, 3, 12, 9, 7, 5, 10, 6, 1] ++
  [13, 0, 11, 7, 4, 9, 1, 10, 14, 3, 5, 12, 2, 15, 8, 6] ++
  [1, 4, 11, 13, 12, 3, 7, 14, 10, 15, 6, 8, 0, 5, 9, 2] ++
  [6, 11, 13, 8, 1, 4, 10, 7, 9, 5, 0, 15, 14, 2, 3, 12]

/-- The substitution box S8, rows 0 to 3 one after another (R106). -/
def S8 : List Nat :=
  [13, 2, 8, 4, 6, 15, 11, 1, 10, 9, 3, 14, 5, 0, 12, 7] ++
  [1, 15, 13, 8, 10, 3, 7, 4, 12, 5, 6, 11, 0, 14, 9, 2] ++
  [7, 11, 4, 1, 9, 12, 14, 2, 0, 6, 10, 13, 15, 3, 5, 8] ++
  [2, 1, 14, 7, 4, 10, 8, 13, 15, 12, 9, 0, 3, 5, 6, 11]

/-- The substitution box of number k, 1 to 8. -/
def sbox : Nat → List Nat
  | 1 => S1 | 2 => S2 | 3 => S3 | 4 => S4 | 5 => S5 | 6 => S6 | 7 => S7 | _ => S8

/-- `Sk(v)`: row `2*b1 + b6`, column `8*b2 + 4*b3 + 2*b4 + b5`, with b1 the most significant bit of v (R106). -/
def sboxValue (k : Nat) (v : BitVec 6) : Nat :=
  let row := 2 * (v.getLsbD 5).toNat + (v.getLsbD 0).toNat
  let col := 8 * (v.getLsbD 4).toNat + 4 * (v.getLsbD 3).toNat + 2 * (v.getLsbD 2).toNat + (v.getLsbD 1).toNat
  (sbox k).getD (16 * row + col) 0

/-- P, the permutation of the S-box output, 1-based (R107). -/
def P : List Nat :=
  [16, 7, 20, 21, 29, 12, 28, 17, 1, 15, 23, 26, 5, 18, 31, 10] ++
  [2, 8, 24, 14, 32, 27, 3, 9, 19, 13, 30, 6, 22, 11, 4, 25]

/-- IP, the initial permutation, 1-based (R111). -/
def IP : List Nat :=
  [58, 50, 42, 34, 26, 18, 10, 2, 60, 52, 44, 36, 28, 20, 12, 4] ++
  [62, 54, 46, 38, 30, 22, 14, 6, 64, 56, 48, 40, 32, 24, 16, 8] ++
  [57, 49, 41, 33, 25, 17, 9, 1, 59, 51, 43, 35, 27, 19, 11, 3] ++
  [61, 53, 45, 37, 29, 21, 13, 5, 63, 55, 47, 39, 31, 23, 15, 7]

/-- FP, the final permutation, 1-based (R112). -/
def FP : List Nat :=
  [40, 8, 48, 16, 56, 24, 64, 32, 39, 7, 47, 15, 55, 23, 63, 31] ++
  [38, 6, 46, 14, 54, 22, 62, 30, 37, 5, 45, 13, 53, 21, 61, 29] ++
  [36, 4, 44, 12, 52, 20, 60, 28, 35, 3, 43, 11, 51, 19, 59, 27] ++
  [34, 2, 42, 10, 50, 18, 58, 26, 33, 1, 41, 9, 49, 17, 57, 25]

/-- E, the expansion of a half, 1-based (R113). -/
def E : List Nat :=
  [32, 1, 2, 3, 4, 5, 4, 5, 6, 7, 8, 9] ++
  [8, 9, 10, 11, 12, 13, 12, 13, 14, 15, 16, 17] ++
  [16, 17, 18, 19, 20, 21, 20, 21, 22, 23, 24, 25] ++
  [24, 25, 26, 27, 28, 29, 28, 29, 30, 31, 32, 1]

/-- SP1, the merged substitution table of entry 1, v = 0..63 (R109). -/
def SP1 : List Word :=
  [0x01010400, 0x00000000, 0x00010000, 0x01010404, 0x01010004, 0x00010404, 0x00000004, 0x00010000] ++
  [0x00000400, 0x01010400, 0x01010404, 0x00000400, 0x01000404, 0x01010004, 0x01000000, 0x00000004] ++
  [0x00000404, 0x01000400, 0x01000400, 0x00010400, 0x00010400, 0x01010000, 0x01010000, 0x01000404] ++
  [0x00010004, 0x01000004, 0x01000004, 0x00010004, 0x00000000, 0x00000404, 0x00010404, 0x01000000] ++
  [0x00010000, 0x01010404, 0x00000004, 0x01010000, 0x01010400, 0x01000000, 0x01000000, 0x00000400] ++
  [0x01010004, 0x00010000, 0x00010400, 0x01000004, 0x00000400, 0x00000004, 0x01000404, 0x00010404] ++
  [0x01010404, 0x00010004, 0x01010000, 0x01000404, 0x01000004, 0x00000404, 0x00010404, 0x01010400] ++
  [0x00000404, 0x01000400, 0x01000400, 0x00000000, 0x00010004, 0x00010400, 0x00000000, 0x01010004]

/-- SP2, the merged substitution table of entry 2, v = 0..63 (R109). -/
def SP2 : List Word :=
  [0x80108020, 0x80008000, 0x00008000, 0x00108020, 0x00100000, 0x00000020, 0x80100020, 0x80008020] ++
  [0x80000020, 0x80108020, 0x80108000, 0x80000000, 0x80008000, 0x00100000, 0x00000020, 0x80100020] ++
  [0x00108000, 0x00100020, 0x80008020, 0x00000000, 0x80000000, 0x00008000, 0x00108020, 0x80100000] ++
  [0x00100020, 0x80000020, 0x00000000, 0x00108000, 0x00008020, 0x80108000, 0x80100000, 0x00008020] ++
  [0x00000000, 0x00108020, 0x80100020, 0x00100000, 0x80008020, 0x80100000, 0x80108000, 0x00008000] ++
  [0x80100000, 0x80008000, 0x00000020, 0x80108020, 0x00108020, 0x00000020, 0x00008000, 0x80000000] ++
  [0x00008020, 0x80108000, 0x00100000, 0x80000020, 0x00100020, 0x80008020, 0x80000020, 0x00100020] ++
  [0x00108000, 0x00000000, 0x80008000, 0x00008020, 0x80000000, 0x80100020, 0x80108020, 0x00108000]

/-- SP3, the merged substitution table of entry 3, v = 0..63 (R109). -/
def SP3 : List Word :=
  [0x00000208, 0x08020200, 0x00000000, 0x08020008, 0x08000200, 0x00000000, 0x00020208, 0x08000200] ++
  [0x00020008, 0x08000008, 0x08000008, 0x00020000, 0x08020208, 0x00020008, 0x08020000, 0x00000208] ++
  [0x08000000, 0x00000008, 0x08020200, 0x00000200, 0x00020200, 0x08020000, 0x08020008, 0x00020208] ++
  [0x08000208, 0x00020200, 0x00020000, 0x08000208, 0x00000008, 0x08020208, 0x00000200, 0x08000000] ++
  [0x08020200, 0x08000000, 0x00020008, 0x00000208, 0x00020000, 0x08020200, 0x08000200, 0x00000000] ++
  [0x00000200, 0x00020008, 0x08020208, 0x08000200, 0x08000008, 0x00000200, 0x00000000, 0x08020008] ++
  [0x08000208, 0x00020000, 0x08000000, 0x08020208, 0x00000008, 0x00020208, 0x00020200, 0x08000008] ++
  [0x08020000, 0x08000208, 0x00000208, 0x08020000, 0x00020208, 0x00000008, 0x08020008, 0x00020200]

/-- SP4, the merged substitution table of entry 4, v = 0..63 (R109). -/
def SP4 : List Word :=
  [0x00802001, 0x00002081, 0x00002081, 0x00000080, 0x00802080, 0x00800081, 0x00800001, 0x00002001] ++
  [0x00000000, 0x00802000, 0x00802000, 0x00802081, 0x00000081, 0x00000000, 0x00800080, 0x00800001] ++
  [0x00000001, 0x00002000, 0x00800000, 0x00802001, 0x00000080, 0x00800000, 0x00002001, 0x00002080] ++
  [0x00800081, 0x00000001, 0x00002080, 0x00800080, 0x00002000, 0x00802080, 0x00802081, 0x00000081] ++
  [0x00800080, 0x00800001, 0x00802000, 0x00802081, 0x00000081, 0x00000000, 0x00000000, 0x00802000] ++
  [0x00002080, 0x00800080, 0x00800081, 0x00000001, 0x00802001, 0x00002081, 0x00002081, 0x00000080] ++
  [0x00802081, 0x00000081, 0x00000001, 0x00002000, 0x00800001, 0x00002001, 0x00802080, 0x00800081] ++
  [0x00002001, 0x00002080, 0x00800000, 0x00802001, 0x00000080, 0x00800000, 0x00002000, 0x00802080]

/-- SP5, the merged substitution table of entry 5, v = 0..63 (R109). -/
def SP5 : List Word :=
  [0x00000100, 0x02080100, 0x02080000, 0x42000100, 0x00080000, 0x00000100, 0x40000000, 0x02080000] ++
  [0x40080100, 0x00080000, 0x02000100, 0x40080100, 0x42000100, 0x42080000, 0x00080100, 0x40000000] ++
  [0x02000000, 0x40080000, 0x40080000, 0x00000000, 0x40000100, 0x42080100, 0x42080100, 0x02000100] ++
  [0x42080000, 0x40000100, 0x00000000, 0x42000000, 0x02080100, 0x02000000, 0x42000000, 0x00080100] ++
  [0x00080000, 0x42000100, 0x00000100, 0x02000000, 0x40000000, 0x02080000, 0x42000100, 0x40080100] ++
  [0x02000100, 0x40000000, 0x42080000, 0x02080100, 0x40080100, 0x00000100, 0x02000000, 0x42080000] ++
  [0x42080100, 0x00080100, 0x42000000, 0x42080100, 0x02080000, 0x00000000, 0x40080000, 0x42000000] ++
  [0x00080100, 0x02000100, 0x40000100, 0x00080000, 0x00000000, 0x40080000, 0x02080100, 0x40000100]

/-- SP6, the merged substitution table of entry 6, v = 0..63 (R109). -/
def SP6 : List Word :=
  [0x20000010, 0x20400000, 0x00004000, 0x20404010, 0x20400000, 0x00000010, 0x20404010, 0x00400000] ++
  [0x20004000, 0x00404010, 0x00400000, 0x20000010, 0x00400010, 0x20004000, 0x20000000, 0x00004010] ++
  [0x00000000, 0x00400010, 0x20004010, 0x00004000, 0x00404000, 0x20004010, 0x00000010, 0x20400010] ++
  [0x20400010, 0x00000000, 0x00404010, 0x20404000, 0x00004010, 0x00404000, 0x20404000, 0x20000000] ++
  [0x20004000, 0x00000010, 0x20400010, 0x00404000, 0x20404010, 0x00400000, 0x00004010, 0x20000010] ++
  [0x00400000, 0x20004000, 0x20000000, 0x00004010, 0x20000010, 0x20404010, 0x00404000, 0x20400000] ++
  [0x00404010, 0x20404000, 0x00000000, 0x20400010, 0x00000010, 0x00004000, 0x20400000, 0x00404010] ++
  [0x00004000, 0x00400010, 0x20004010, 0x00000000, 0x20404000, 0x20000000, 0x00400010, 0x20004010]

/-- SP7, the merged substitution table of entry 7, v = 0..63 (R109). -/
def SP7 : List Word :=
  [0x00200000, 0x04200002, 0x04000802, 0x00000000, 0x00000800, 0x04000802, 0x00200802, 0x04200800] ++
  [0x04200802, 0x00200000, 0x00000000, 0x04000002, 0x00000002, 0x04000000, 0x04200002, 0x00000802] ++
  [0x04000800, 0x00200802, 0x00200002, 0x04000800, 0x04000002, 0x04200000, 0x04200800, 0x00200002] ++
  [0x04200000, 0x00000800, 0x00000802, 0x04200802, 0x00200800, 0x00000002, 0x04000000, 0x00200800] ++
  [0x04000000, 0x00200800, 0x00200000, 0x04000802, 0x04000802, 0x04200002, 0x04200002, 0x00000002] ++
  [0x00200002, 0x04000000, 0x04000800, 0x00200000, 0x04200800, 0x00000802, 0x00200802, 0x04200800] ++
  [0x00000802, 0x04000002, 0x04200802, 0x04200000, 0x00200800, 0x00000000, 0x00000002, 0x04200802] ++
  [0x00000000, 0x00200802, 0x04200000, 0x00000800, 0x04000002, 0x04000800, 0x00000800, 0x00200002]

/-- SP8, the merged substitution table of entry 8, v = 0..63 (R109). -/
def SP8 : List Word :=
  [0x10001040, 0x00001000, 0x00040000, 0x10041040, 0x10000000, 0x10001040, 0x00000040, 0x10000000] ++
  [0x00040040, 0x10040000, 0x10041040, 0x00041000, 0x10041000, 0x00041040, 0x00001000, 0x00000040] ++
  [0x10040000, 0x10000040, 0x10001000, 0x00001040, 0x00041000, 0x00040040, 0x10040040, 0x10041000] ++
  [0x00001040, 0x00000000, 0x00000000, 0x10040040, 0x10000040, 0x10001000, 0x00041040, 0x00040000] ++
  [0x00041040, 0x00040000, 0x10041000, 0x00001000, 0x00000040, 0x10040040, 0x00001000, 0x00041040] ++
  [0x10001000, 0x00000040, 0x10000040, 0x10040000, 0x10040040, 0x10000000, 0x00040000, 0x10001040] ++
  [0x00000000, 0x10041040, 0x00040040, 0x10000040, 0x10040000, 0x10001000, 0x10001040, 0x00000000] ++
  [0x10041040, 0x00041000, 0x00041000, 0x00001040, 0x00001040, 0x00040040, 0x10000000, 0x10041000]

/-- The table of number k, 1 to 8. -/
def spTable : Nat → List Word
  | 1 => SP1 | 2 => SP2 | 3 => SP3 | 4 => SP4 | 5 => SP5 | 6 => SP6 | 7 => SP7 | _ => SP8

/-- The lookup `SPk[v]` of a 6-bit window (R108, R109, R171). -/
def sp (k : Nat) (v : BitVec 6) : Word := (spTable k).getD v.toNat 0

/-- `Pword(x)`: position i of the result is position `P[i]` of x (R108). -/
def pword (x : Word) : Word := permute P 32 x

/-- The construction of an SP entry from Sk, P and a 1-bit rotation (R108). R109's values are this function's;
the machine looks the values up. -/
def spFromRule (k : Nat) (v : BitVec 6) : Word :=
  rotl (pword (BitVec.ofNat 32 (sboxValue k v) <<< (32 - 4 * k))) 1

/-- The mask of the bits that table k can write: the OR of its 64 entries (R110). -/
def spMask (k : Nat) : Word := (spTable k).foldl (· ||| ·) 0

/-- The table form of the initial permutation over the 64-bit block (R111). -/
def permIP (x : BitVec 64) : BitVec 64 := permute IP 64 x

/-- The table form of the final permutation over the 64-bit block (R112). -/
def permFP (x : BitVec 64) : BitVec 64 := permute FP 64 x

/-- The expansion of a 32-bit half to 48 bits (R113). The engine realises it in the windows of R171. -/
def expandE (x : Word) : BitVec 48 := permute E 48 x

end Sys2Proof.Machine
end

