-- ==== Sys2Proof/Machine/KeySchedule.lean ====
section
/-! DEFINITION. The Key Schedule Generator (spec/41_key_schedule.md R120-R132): `schedule key d`, a pure function of the
8-byte key and the direction bit (`false` = 0 = encrypt, `true` = 1 = decrypt; R7, R120). -/

namespace Sys2Proof.Machine

/-- Byte i of a byte string. -/
def byteAt (b : Bytes8) (i : Nat) : Byte := b.getD i 0

/-- Word i of a key schedule. -/
def ksWord (ks : KeySched) (i : Nat) : Word := ks.getD i 0

/-- Key bit `l`: bit BYTEBIT[l & 7] of key byte `key[l >> 3]` (R101, R121). -/
def keyBit (key : Bytes8) (l : Nat) : Bool :=
  decide (byteAt key (l >>> 3) &&& BYTEBIT (l &&& 7) ≠ 0)

/-- Step 1, PC1 selection: entry j of the 56-bit array `pc1m` (R121). -/
def pc1m (key : Bytes8) (j : Nat) : Bool := keyBit key (PC1.getD j 0)

/-- Step 2, rotation: entry j of the array `pcr` of round i, the halves of `pc1m` rotated left by TOTROT[i] in total, each
round from `pc1m` itself (R123, C9). -/
def pcr (key : Bytes8) (i j : Nat) : Bool :=
  let t := TOTROT.getD i 0
  if j < 28 then pc1m key ((j + t) % 28) else pc1m key (28 + (j - 28 + t) % 28)

/-- Steps 2 and 3 for one half: the 24 bits that PC2[off], ..., PC2[off + 23] select, bit j under BIGBYTE[j] (R124). -/
def rawHalf (bits : Nat → Bool) (off : Nat) : Word :=
  (List.range 24).foldl (fun r j => if bits (PC2.getD (j + off) 0) then r ||| BIGBYTE j else r) 0

/-- The raw-word pair of key generation round i: `raw[m]` from half C and `raw[n]` from half D (R124). -/
def rawPair (key : Bytes8) (i : Nat) : Word × Word :=
  (rawHalf (pcr key i) 0, rawHalf (pcr key i) 24)

/-- Step 4: the slot position m that round i writes, `2 * (15 - i)` for decrypt and `2 * i` for encrypt (R122, C1). -/
def slotM (d : Bool) (i : Nat) : Nat := if d then 2 * (15 - i) else 2 * i

/-- The round that writes slot s: the inverse of the bijection of R122. -/
def roundOfSlot (d : Bool) (s : Nat) : Nat := if d then 15 - s else s

/-- The raw schedule: slot s holds the pair of the round that R122 maps to it (R125). -/
def raw (key : Bytes8) (d : Bool) : KeySched :=
  Vector.ofFn fun w =>
    let p := rawPair key (roundOfSlot d (w.val / 2))
    if w.val % 2 = 0 then p.1 else p.2

/-- Step 5, the even cooked word of a pair (R127). -/
def cookEven (r0 r1 : Word) : Word :=
  ((r0 &&& 0x00fc0000) <<< 6) ||| ((r0 &&& 0x00000fc0) <<< 10) |||
  ((r1 &&& 0x00fc0000) >>> 10) ||| ((r1 &&& 0x00000fc0) >>> 6)

/-- Step 5, the odd cooked word of a pair (R127). -/
def cookOdd (r0 r1 : Word) : Word :=
  ((r0 &&& 0x0003f000) <<< 12) ||| ((r0 &&& 0x0000003f) <<< 16) |||
  ((r1 &&& 0x0003f000) >>> 4) ||| (r1 &&& 0x0000003f)

/-- The pairwise map of step 5 over a whole raw schedule (R127, R129). -/
def cookey (r : KeySched) : KeySched :=
  Vector.ofFn fun w =>
    let p := w.val / 2
    if w.val % 2 = 0 then cookEven (ksWord r (2 * p)) (ksWord r (2 * p + 1))
    else cookOdd (ksWord r (2 * p)) (ksWord r (2 * p + 1))

/-- `schedule(key, d) = cookey(raw(key, d))` (R120, R129). Irreducible, as `transform` is. -/
@[irreducible] def schedule (key : Bytes8) (d : Bool) : KeySched := cookey (raw key d)

/-- `rev(KS)[2s + b] = KS[2(15 - s) + b]`: the schedule with its pairs reversed (R126, R180). -/
def revPairs (ks : KeySched) : KeySched :=
  Vector.ofFn fun w => ksWord ks (2 * (15 - w.val / 2) + w.val % 2)

end Sys2Proof.Machine
end

