-- ==== Sys2Proof/Machine/Packing.lean ====
section
/-! DEFINITION. The Byte/Word Packer and Unpacker (spec/42_packing.md R140-R143): wiring with no state, byte 0 the most
significant byte of word 0 (R53). -/

namespace Sys2Proof.Machine

/-- Four bytes as a word, the first the most significant (R140). -/
def packWord (b0 b1 b2 b3 : Byte) : Word :=
  (b0.zeroExtend 32 <<< 24) ||| (b1.zeroExtend 32 <<< 16) ||| (b2.zeroExtend 32 <<< 8) ||| b3.zeroExtend 32

/-- `pack`: an 8-byte block as the two words (w0, w1) (R140). -/
def pack (b : Bytes8) : Word × Word :=
  (packWord b[0] b[1] b[2] b[3], packWord b[4] b[5] b[6] b[7])

/-- `unpack`: two words as 8 bytes, most significant byte first; it never swaps words (R141, R143). -/
def unpack (w0 w1 : Word) : Bytes8 :=
  #v[w0.extractLsb' 24 8, w0.extractLsb' 16 8, w0.extractLsb' 8 8, w0.extractLsb' 0 8,
     w1.extractLsb' 24 8, w1.extractLsb' 16 8, w1.extractLsb' 8 8, w1.extractLsb' 0 8]

end Sys2Proof.Machine
end

