-- ==== Sys2Proof/Machine/Permutation.lean ====
section
/-! DEFINITION. The initial and final bit permutation unit (spec/43_permutation.md R150-R158), in the word form; the table
form stands in Tables.lean (`permIP`, `permFP`), and the spec says the two are equal (R152, R155, R158). -/

namespace Sys2Proof.Machine

/-- The swap step `swapmove(a, b, n, m)`, returning `(a', b')` (R150). -/
def swapmove (a b : Word) (n : Nat) (m : Word) : Word × Word :=
  let w := ((a >>> n) ^^^ b) &&& m
  (a ^^^ (w <<< n), b ^^^ w)

/-- `IPW(w0, w1)`, the halves (L, R) that enter the first round: five swap steps and two rotations (R151, C2). -/
def ipw (w0 w1 : Word) : Word × Word :=
  let (l, r) := swapmove w0 w1 4 0x0f0f0f0f
  let (l, r) := swapmove l r 16 0x0000ffff
  let (r, l) := swapmove r l 2 0x33333333
  let (r, l) := swapmove r l 8 0x00ff00ff
  let r := rotl r 1
  let (l, r) := swapmove l r 0 0xaaaaaaaa
  let l := rotl l 1
  (l, r)

/-- `FPW(L, R)`, the output words (o0, o1): the mixing step is undone between the two rotations, and the right half comes
first (R154, C3). -/
def fpw (l r : Word) : Word × Word :=
  let r := rotr r 1
  let (l, r) := swapmove l r 0 0xaaaaaaaa
  let l := rotr l 1
  let (l, r) := swapmove l r 8 0x00ff00ff
  let (l, r) := swapmove l r 2 0x33333333
  let (r, l) := swapmove r l 16 0x0000ffff
  let (r, l) := swapmove r l 4 0x0f0f0f0f
  (r, l)

end Sys2Proof.Machine
end

