-- ==== Sys2Proof/Machine/Rounds.lean ====
section
/-! DEFINITION. The Feistel round processor and the block transform (spec/44_rounds.md R170-R182). -/

namespace Sys2Proof.Machine

/-- The 6-bit window `w[lo + 5 : lo]` (R171). -/
def window (w : Word) (lo : Nat) : BitVec 6 := w.extractLsb' lo 6

/-- The first lookup group, the odd tables, on the rotated word (R171, C4). -/
def lookupOdd (wa : Word) : Word :=
  sp 1 (window wa 24) ||| sp 3 (window wa 16) ||| sp 5 (window wa 8) ||| sp 7 (window wa 0)

/-- The second lookup group, the even tables, on the unrotated word (R171, C4). -/
def lookupEven (wb : Word) : Word :=
  sp 2 (window wb 24) ||| sp 4 (window wb 16) ||| sp 6 (window wb 8) ||| sp 8 (window wb 0)

/-- The round function `F(x, ka, kb)` (R170, R171). -/
def roundF (x ka kb : Word) : Word :=
  lookupOdd (rotr x 4 ^^^ ka) ||| lookupEven (x ^^^ kb)

/-- Double-round k: half-round A updates L, then half-round B updates R from the L just written (R173). -/
def doubleRound (ks : KeySched) (k : Nat) (lr : Word × Word) : Word × Word :=
  let l := lr.1 ^^^ roundF lr.2 (ksWord ks (4 * k)) (ksWord ks (4 * k + 1))
  let r := lr.2 ^^^ roundF l (ksWord ks (4 * k + 2)) (ksWord ks (4 * k + 3))
  (l, r)

/-- `rounds(KS, (L, R))`: double-rounds 0 to 7 in order, the halves unswapped (R175). -/
def rounds (ks : KeySched) (lr : Word × Word) : Word × Word :=
  (List.range 8).foldl (fun acc k => doubleRound ks k acc) lr

/-- The block transform (R176). Irreducible, so that no proof about the machine runs it by accident; `unfold` opens it. -/
@[irreducible] def transform (ks : KeySched) (b : Bytes8) : Bytes8 :=
  let w := pack b
  let h := ipw w.1 w.2
  let h := rounds ks h
  let o := fpw h.1 h.2
  unpack o.1 o.2

end Sys2Proof.Machine
end

