-- ==== Sys2Proof/Machine/Ops.lean ====
section
/-! DEFINITION. The named operations on the engine's registers (spec/45_commands.md): host reads and writes, issue, a write while busy,
the clock edge of a command in flight, completion and reset. There is no memory beyond the register window (R50). -/

namespace Sys2Proof.Machine

/-- `MemRead(off, 1)` for off from 0 to 31 (R210, R52, R57): CTRL, KEY and the reserved offsets read 0x00. -/
def readReg (off : Nat) (s : State) : Byte :=
  if off = 0x01 then status s
  else if 0x10 ≤ off ∧ off ≤ 0x17 then byteAt s.din (off - 0x10)
  else if 0x18 ≤ off ∧ off ≤ 0x1F then byteAt s.dout (off - 0x18)
  else 0

/-- A host write to a register other than CTRL while no command is in flight (R209, R57): KEY and DIN store the byte, every
other offset ignores the write. -/
def storeReg (off : Nat) (v : Byte) (s : State) : State :=
  if 0x08 ≤ off ∧ off ≤ 0x0F then { s with key := s.key.setIfInBounds (off - 0x08) v }
  else if 0x10 ≤ off ∧ off ≤ 0x17 then { s with din := s.din.setIfInBounds (off - 0x10) v }
  else s

/-- The offsets at which a write while busy is an error: CTRL, KEY and DIN (R213). -/
def busyWriteIsError (off : Nat) : Bool := off = 0x00 || (0x08 ≤ off && off ≤ 0x17)

/-- A host write while a command is in flight: dropped; an error at CTRL, KEY and DIN, ignored elsewhere (R213). -/
def busyWrite (off : Nat) (s : State) : State :=
  if busyWriteIsError off then raise .writeWhileBusy s else s

/-- A host write to CTRL: while busy it is R213's; while not busy it is an issue, which clears DONE and ERRCODE and then
does what the byte asks (R211). -/
def issue (accepted : State → State) (s : State) : State :=
  if busy s then busyWrite 0x00 s else accepted (clearStatus s)

/-- `pend <- {op, d, keysnap = KEY, dinsnap = DIN, remaining = cmd_cycles(op)}` (R211). -/
def goBusy (op : BusyOp) (d : Bool) (s : State) : State := { s with pend := some (snapshot op d s) }

/-- A command that ends within its issue with an error (R200, R206, R208, R232). -/
def rejectWith (e : EngineError) (s : State) : State := setDone (raise e s)

/-- The write to CTRL of a byte that does not decode (R208, R73); while busy it is R213's. -/
def illegalCommand (s : State) : State := issue (rejectWith .illegalCmd) s

/-- KS all zero, no schedule loaded (R207, R212). -/
def eraseSchedule (s : State) : State := { s with ks := KeySched.zero, ksv := false, ksdir := false }

/-- The results of the command in flight, by its operation (R212). -/
def commitResults (p : Pending) (s : State) : State :=
  match p.op with
  | .crypt => eraseSchedule { s with dout := transform (schedule p.keysnap p.d) p.dinsnap }
  | .ksload => { s with ks := schedule p.keysnap p.d, ksv := true, ksdir := p.d }
  | .transform => { s with dout := transform s.ks p.dinsnap }
  | .kserase => eraseSchedule s

/-- Completion: all results at once, then `pend <- none; done <- 1` and the working state zeroed; ERRCODE is left unchanged
(R212). -/
def complete (p : Pending) (s : State) : State :=
  { commitResults p s with pend := none, done := true, work := Work.zero }

/-- The free value of the working state at one edge of a command in flight (R29, X5). -/
def freeWork (n : Nat) : Work :=
  { pc1m := Config.freePc1m n, pcr := Config.freePcr n, raw := Config.freeRaw n,
    halfL := Config.freeHalfL n, halfR := Config.freeHalfR n, round := Config.freeRound n }

/-- A clock edge that does not complete the command in flight: one cycle less is left, and the working state is whatever
the units make it (R212, R29). -/
def countDown (p : Pending) (s : State) : State :=
  { s with pend := some { p with remaining := p.remaining - 1 },
           work := freeWork s.freeCount, freeCount := s.freeCount + 1 }

/-- The engine's part of a clock edge, for the command that was in flight at the START of the cycle (R51, R212). -/
def engineEdge (inFlight : Option Pending) (s : State) : State :=
  match inFlight with
  | none => s
  | some p => if p.remaining > 1 then countDown p s else complete p s

/-- A clock edge with `rst` = 1: every piece of state takes its reset value, and the rest of the driven cycles stay to
come (R260, R261). The model's counter of free values goes on counting. -/
def resetEdge (s : State) : State :=
  { State.reset with port := s.port, freeCount := s.freeCount }

/-- What `rdata` returns for an access in a cycle: the register's value as it stood at the start of the cycle, 0x00 while
`rst` = 1, and nothing where the cycle has no read (R51, R210, R260). -/
def readData (c : PortCycle) (s : State) : Option Byte :=
  match c.access with
  | some (.read off _) => some (if c.rst then 0 else readReg off s)
  | some (.write _ _) => none
  | none => none

/-- Which accesses the port does not have: another width than one byte, or an offset above 31 (R54, R214, X1, X2). -/
def accessRefusal : Access → Option Refusal
  | .read off bytes =>
    if bytes ≠ 1 then some (.accessWidth bytes)
    else if 31 < off then some (.offsetOutsideWindow off) else none
  | .write off data =>
    if data.length ≠ 1 then some (.accessWidth data.length)
    else if 31 < off then some (.offsetOutsideWindow off) else none

/-- The offset of a host address in the window at `base`, if the address lies in it (R50). Only the 5-bit offset reaches
the engine. -/
def windowOffset (base addr : Nat) : Option Nat :=
  if base ≤ addr ∧ addr < base + 32 then some (addr - base) else none

end Sys2Proof.Machine
end

