-- ==== Sys2Proof/Machine/Commands.lean ====
section
/-! DEFINITION. The meaning of each command byte (spec/45_commands.md R201-R207): what the host's write of it to CTRL does, at any
state. While a command is in flight it is a write while busy (R213); otherwise it is the issue of R211. The results of a
command that goes busy are committed by `complete` at the edge `cmd_cycles(op)` later (R212). -/

namespace Sys2Proof.Machine

/-- NOP: DONE = 1 and ERRCODE = 0, never busy (R201). -/
def execNop (s : State) : Host.Outcome State Fault Refusal :=
  .next (issue setDone s)

/-- ENCRYPT: the façade with d = 0 (R202). -/
def execEncrypt (s : State) : Host.Outcome State Fault Refusal :=
  .next (issue (goBusy .crypt false) s)

/-- DECRYPT: the façade with d = 1 (R203). -/
def execDecrypt (s : State) : Host.Outcome State Fault Refusal :=
  .next (issue (goBusy .crypt true) s)

/-- KSLOAD.E: load the encrypt schedule of KEY (R204). -/
def execKsloadE (s : State) : Host.Outcome State Fault Refusal :=
  .next (issue (goBusy .ksload false) s)

/-- KSLOAD.D: load the decrypt schedule of KEY (R205). -/
def execKsloadD (s : State) : Host.Outcome State Fault Refusal :=
  .next (issue (goBusy .ksload true) s)

/-- What an accepted TRANSFORM does: NO_SCHEDULE where no schedule is loaded, else it goes busy (R206). -/
def issueTransform (s : State) : State :=
  match s.ksv with
  | true => goBusy .transform false s
  | false => rejectWith .noSchedule s

/-- TRANSFORM with the loaded schedule (R206). -/
def execTransform (s : State) : Host.Outcome State Fault Refusal :=
  .next (issue issueTransform s)

/-- KSERASE: erase the schedule (R207). -/
def execKserase (s : State) : Host.Outcome State Fault Refusal :=
  .next (issue (goBusy .kserase false) s)

end Sys2Proof.Machine
end

