-- ==== Sys2Proof/Machine/Dispatch.lean ====
section
/-! DEFINITION. The one dispatch of the commands: an arm for each constructor of Instr, each a call of its meaning. -/

namespace Sys2Proof.Machine

def exec (i : Instr) (s : State) : Host.Outcome State Fault Refusal :=
  match i with
  | .nop => Sys2Proof.Machine.execNop s
  | .encrypt => Sys2Proof.Machine.execEncrypt s
  | .decrypt => Sys2Proof.Machine.execDecrypt s
  | .ksloadE => Sys2Proof.Machine.execKsloadE s
  | .ksloadD => Sys2Proof.Machine.execKsloadD s
  | .transform => Sys2Proof.Machine.execTransform s
  | .kserase => Sys2Proof.Machine.execKserase s

end Sys2Proof.Machine
end

