-- ==== Sys2Proof/Machine/Port.lean ====
section
/-! DEFINITION. The host port (spec/20_memory.md R50-R61): what one access does, and one whole clock cycle. Within a cycle a read
returns the start-of-cycle value, a write is judged against the BUSY of the start of the cycle, and the edge that ends it
performs the write, the countdown and the completion together (R51, R235). -/

namespace Sys2Proof.Machine

/-- `MemWrite(0x00, 1, v)`: the byte is decoded; a command runs its meaning, any other byte is ILLEGAL_CMD (R71, R208, R211).
While busy both are the write of R213. -/
def writeCtrl (v : Byte) (s : State) : Host.Outcome State Fault Refusal :=
  match decodeByte v with
  | .ok i => exec i s
  | .error _ => .next (illegalCommand s)

/-- `MemWrite(off, 1, v)` for off from 0 to 31 (R209, R211, R213, R214). -/
def writeReg (off : Nat) (v : Byte) (s : State) : Host.Outcome State Fault Refusal :=
  if off = 0x00 then writeCtrl v s
  else if busy s then .next (busyWrite off s)
  else .next (storeReg off v s)

/-- What the access of a cycle does to the registers: only a write does anything (R56). -/
def performAccess (a : Option Access) (s : State) : Host.Outcome State Fault Refusal :=
  match a with
  | some (.write off data) =>
    match data with
    | [v] => writeReg off v s
    | _ => .refused (.accessWidth data.length)
  | some (.read _ _) => .next s
  | none => .next s

/-- The engine's part of the edge, after what the access did to the registers. -/
def afterAccess (inFlight : Option Pending) : Host.Outcome State Fault Refusal → Host.Outcome State Fault Refusal
  | .next t => .next (engineEdge inFlight t)
  | .fault r => .fault r
  | .refused r => .refused r

/-- A cycle whose access, if it has one, is one the port has. Reset wins over every other event on its edge (R260, R235). -/
def legalCycle (c : PortCycle) (s : State) : Host.Outcome State Fault Refusal :=
  if c.rst then .next { resetEdge s with rdata := readData c s }
  else afterAccess s.pend (performAccess c.access { s with rdata := readData c s })

/-- One clock cycle driven by `c`. An access the port does not have is refused, in any cycle (R54, R214). -/
def clockCycle (c : PortCycle) (s : State) : Host.Outcome State Fault Refusal :=
  match c.access.bind accessRefusal with
  | some r => .refused r
  | none => legalCycle c s

/-- A cycle with no access and no reset. -/
def idleCycle : PortCycle := { rst := false, access := none }

/-- A cycle that writes one byte. -/
def writeCycle (off : Nat) (v : Byte) : PortCycle := { rst := false, access := some (.write off [v]) }

/-- A cycle that reads one byte. -/
def readCycle (off : Nat) : PortCycle := { rst := false, access := some (.read off 1) }

/-- A cycle with `rst` = 1 and no access. -/
def resetCycle : PortCycle := { rst := true, access := none }

/-- The cycle the port drives next and the state it is applied to: the oldest pending cycle, or an idle one. -/
def takeCycle (s : State) : PortCycle × State :=
  match s.port with
  | [] => (idleCycle, s)
  | c :: rest => (c, { s with port := rest })

/-- A cycle that writes the bytes of a table word to CTRL. -/
def fetchCycle (nbits w : Nat) : PortCycle := { rst := false, access := some (.write 0x00 (wordBytes nbits w)) }

/-- The signals of the port in one cycle (R51). -/
structure PortSignals where
  /-- Reset, active high. -/
  rst : Bool
  /-- An access happens in this cycle. -/
  sel : Bool
  /-- 1 = write, 0 = read. -/
  we : Bool
  /-- `addr[4:0]`, the offset. -/
  addr : BitVec 5
  /-- `wdata[7:0]`. -/
  wdata : Byte
  deriving DecidableEq, Repr

/-- The cycle that the signals drive (R51). -/
def cycleOfSignals (p : PortSignals) : PortCycle :=
  { rst := p.rst
    access :=
      if p.sel then
        if p.we then some (.write p.addr.toNat [p.wdata]) else some (.read p.addr.toNat 1)
      else none }

/-- The access of a transaction word T: `T[15]` = we, `T[14:13]` = 00, `T[12:8]` = off, `T[7:0]` = the byte written, or
0x00 for a read (R77); `none` where the word has another form. -/
def accessOfTransaction (t : BitVec 16) : Option Access :=
  let off := (t.extractLsb' 8 5).toNat
  let v := t.extractLsb' 0 8
  if t.extractLsb' 13 2 ≠ 0 then none
  else if t.getLsbD 15 then some (.write off [v])
  else if v = 0 then some (.read off 1)
  else none

/-- The transaction word of a one-byte access in the window (R77); `none` for an access the port does not have. -/
def transactionOfAccess (a : Access) : Option (BitVec 16) :=
  match accessRefusal a with
  | some _ => none
  | none =>
    match a with
    | .read off _ => some ((0#3 : BitVec 3) ++ BitVec.ofNat 5 off ++ (0#8 : BitVec 8))
    | .write off data => some ((4#3 : BitVec 3) ++ BitVec.ofNat 5 off ++ data.headD 0)

/-- A host access at a host address: the access of the window's offset, if the address lies in the window at
`ENGINE_BASE` (R50, R58). What the platform does with any other address is outside this hardware. -/
def accessAtAddress (addr : Nat) (write : Option Byte) : Option Access :=
  (windowOffset Config.engineBase addr).map fun off =>
    match write with
    | some v => .write off [v]
    | none => .read off 1

end Sys2Proof.Machine
end

