-- ==== Sys2Proof/Machine/Step.lean ====
section
/-! DEFINITION. One step of the machine: one clock cycle (spec/20_memory.md R51, R60). The engine fetches no instructions (R21);
what it executes is the sequence of commands the host writes to CTRL, so the next command stands in the port's next cycle. -/

namespace Sys2Proof.Machine

/-- One clock cycle: the port's next cycle is taken and performed. -/
def step (s : State) : Host.Outcome State Fault Refusal :=
  clockCycle (takeCycle s).1 (takeCycle s).2

/-- The state in which the port's next cycle writes the word's bytes to CTRL; the cycles already to come follow it. -/
def State.withFetchWord (s : State) (nbits w : Nat) : State :=
  { s with port := fetchCycle nbits w :: s.port }

end Sys2Proof.Machine
end

