-- ==== Sys2Proof/Machine/Abstract.lean ====
section
/-! DEFINITION. The engine as the step relation of spec/45_commands.md R214, without clock cycles: completion may happen at any
time while a command is in flight (spec/20_memory.md R60, second bullet). The clocked machine of Step.lean refines it. -/

namespace Sys2Proof.Machine

/-- The steps of R214: `HostRead off | HostWrite off v | EngineComplete | Reset`. -/
inductive Event where
  /-- A one-byte host read. -/
  | hostRead (off : Nat)
  /-- A one-byte host write. -/
  | hostWrite (off : Nat) (v : Byte)
  /-- The completion of the command in flight, at any time. -/
  | engineComplete
  /-- Reset. -/
  | reset
  deriving DecidableEq, Repr

/-- A command in flight without its cycle count. -/
def Pending.abs (p : Pending) : Pending := { p with remaining := 0 }

/-- The engine's state as R32 lists it: what only the clocked machine has (the cycles left, the working state, the port and
the free-value counter) is set to one value. -/
def State.abs (s : State) : State :=
  { s with pend := s.pend.map Pending.abs, work := Work.zero, rdata := none, port := [], freeCount := 0 }

/-- One step of R214, with the value a read returns; `none` where the step is not enabled or not one the port has. -/
def eventStep (e : Event) (s : State) : Option (State × Option Byte) :=
  match e with
  | .hostRead off => if off ≤ 31 then some (s, some (readReg off s)) else none
  | .hostWrite off v =>
    if off ≤ 31 then
      match writeReg off v s with
      | .next t => some (t, none)
      | .fault _ => none
      | .refused _ => none
    else none
  | .engineComplete => s.pend.map fun p => (complete p s, none)
  | .reset => some (resetEdge s, none)

/-- A sequence of steps of R214, with the values its reads return, oldest first. -/
def runEvents : List Event → State → Option (State × List Byte)
  | [], s => some (s, [])
  | e :: es, s =>
    match eventStep e s with
    | none => none
    | some (t, out) =>
      match runEvents es t with
      | none => none
      | some (u, outs) => some (u, out.toList ++ outs)

/-- The event of an access the port has. -/
def accessEvents : Option Access → List Event
  | some (.read off _) => [.hostRead off]
  | some (.write off data) => [.hostWrite off (data.headD 0)]
  | none => []

/-- Whether the edge that ends this cycle completes the command in flight (R212). -/
def completesNow (s : State) : Bool :=
  match s.pend with
  | none => false
  | some p => p.remaining ≤ 1

/-- The steps of R214 that one clock cycle is: a reset, or the cycle's access and then the completion if it is due. -/
def cycleEvents (c : PortCycle) (s : State) : List Event :=
  if c.rst then [.reset]
  else accessEvents c.access ++ (if completesNow s then [.engineComplete] else [])

end Sys2Proof.Machine
end

