-- ==== Sys2Proof/Machine/HostProgram.lean ====
section
/-! DEFINITION. The host's side (spec/30_encoding.md R76): host programs, their pseudo-instructions, and a host that drives the engine
one access a cycle. Control flow is the host's own, never the engine's (R76, R215). Names and labels are numbers. -/

namespace Sys2Proof.Machine

/-- An instruction of a host program (R76). -/
inductive HostInstr where
  /-- `wr OFF, VAL`. -/
  | wr (off : Nat) (v : Byte)
  /-- `rd OFF -> NAME`. -/
  | rd (off name : Nat)
  /-- `bnz NAME & MASK, label`. -/
  | bnz (name : Nat) (mask : Byte) (target : Nat)
  /-- `label:`. -/
  | label (name : Nat)
  deriving DecidableEq, Repr

/-- `cmd MNEMONIC`: `wr 0x00, <byte>` (R76). -/
def cmd (i : Instr) : HostInstr := .wr 0x00 (encodeByte i)

/-- `setkey k0 .. k7`: 8 writes, ascending offset (R76). -/
def setkey (k : Bytes8) : List HostInstr := (List.range 8).map fun i => .wr (0x08 + i) (byteAt k i)

/-- `setblk b0 .. b7` (R76). -/
def setblk (b : Bytes8) : List HostInstr := (List.range 8).map fun i => .wr (0x10 + i) (byteAt b i)

/-- `getblk -> o`, into the names o, o + 1, ..., o + 7 (R76). -/
def getblk (o : Nat) : List HostInstr := (List.range 8).map fun i => .rd (0x18 + i) (o + i)

/-- `wait`: poll STATUS until BUSY = 0, with the label w and the name s (R76). -/
def waitIdle (w s : Nat) : List HostInstr := [.label w, .rd 0x01 s, .bnz s 0x01 w]

/-- `clrst` (R76). -/
def clrst : List HostInstr := [cmd .nop]

/-- A host running a program on the engine. -/
structure HostState where
  /-- The program. -/
  prog : List HostInstr
  /-- The position of the next instruction. -/
  pos : Nat
  /-- The values read so far, by name, newest first. -/
  vars : List (Nat × Byte)
  /-- The engine. -/
  engine : State
  deriving DecidableEq, Repr

/-- The newest value of a name; a name never read is 0. -/
def HostState.var (h : HostState) (name : Nat) : Byte := (h.vars.lookup name).getD 0

/-- The position a branch to a label goes to: that of the label's FIRST occurrence, and the end of the program where there is
none. R76 is silent on both a label that stands twice (two `wait` expansions with one w) and one that stands nowhere:
DESIGN CHOICE, notes/assumptions/16.md. -/
def HostState.labelPos (h : HostState) (name : Nat) : Nat :=
  h.prog.findIdx fun i => decide (i = .label name)

/-- The engine driven by one cycle. -/
def driveCycle (c : PortCycle) (h : HostState) : Host.Outcome State Fault Refusal :=
  step { h.engine with port := [c] }

/-- The host after a cycle of the engine: the program moves on as `update` says. -/
def withEngine (update : State → HostState) :
    Host.Outcome State Fault Refusal → Host.Outcome HostState Fault Refusal
  | .next t => .next (update t)
  | .fault r => .fault r
  | .refused r => .refused r

/-- A cycle in which the host does nothing. -/
def hostIdle (h : HostState) : Host.Outcome HostState Fault Refusal :=
  withEngine (fun t => { h with engine := t }) (driveCycle idleCycle h)

/-- One instruction of the host's program: a write or a read is one engine cycle, a branch and a label are the host's
own. At the end of the program the host is idle. -/
def hostStep (h : HostState) : Host.Outcome HostState Fault Refusal :=
  match h.prog[h.pos]? with
  | none => hostIdle h
  | some (.wr off v) =>
    withEngine (fun t => { h with pos := h.pos + 1, engine := t }) (driveCycle (writeCycle off v) h)
  | some (.rd off name) =>
    withEngine (fun t => { h with pos := h.pos + 1, engine := t, vars := (name, t.rdata.getD 0) :: h.vars })
      (driveCycle (readCycle off) h)
  | some (.bnz name mask target) =>
    .next { h with pos := if h.var name &&& mask ≠ 0 then h.labelPos target else h.pos + 1 }
  | some (.label _) => .next { h with pos := h.pos + 1 }

/-- A run of the host: at each entry `true` it performs an instruction, at each `false` it lets a cycle pass. How many cycles
pass between two accesses is the host's choice (R60). -/
def hostRun : List Bool → HostState → Host.Outcome HostState Fault Refusal
  | [], h => .next h
  | a :: as, h =>
    match if a then hostStep h else hostIdle h with
    | .next g => hostRun as g
    | .fault r => .fault r
    | .refused r => .refused r

end Sys2Proof.Machine
end

