-- ==== Sys2Proof/Machine/TextbookDes.lean ====
section
/-! DEFINITION. Bit-level textbook DES (FIPS 46), which spec/44_rounds.md R172 and R181 compare the engine with
[from general knowledge, not in source: G15, G16]. Nothing in the machine uses it: it is evidence, not definition (R181). Bit
positions are 1-based with position 1 the most significant (spec/00_scope.md R10). -/

namespace Sys2Proof.Machine

/-- `rev8(k)[i]` is `k[i]` with its bit order reversed (R181). -/
def rev8 (k : Bytes8) : Bytes8 := Vector.ofFn fun i => (k[i]).reverse

/-- A byte string of 8 bytes as the 64-bit value `w0 ‖ w1` (R10). -/
def block64 (b : Bytes8) : BitVec 64 := (pack b).1 ++ (pack b).2

/-- The 64-bit value as a byte string. -/
def bytes64 (x : BitVec 64) : Bytes8 := unpack (x.extractLsb' 32 32) (x.extractLsb' 0 32)

/-- The FIPS 46 1-based PC-1 table (R101: the 0-based table plus one). -/
def desPC1 : List Nat := PC1.map (· + 1)

/-- The FIPS 46 1-based PC-2 table (R104: the 0-based table plus one). -/
def desPC2 : List Nat := PC2.map (· + 1)

/-- The DES shift schedule: how far each round rotates the halves of the round before (R103). -/
def desShifts : List Nat := [1, 1, 2, 2, 2, 2, 2, 2] ++ [1, 2, 2, 2, 2, 2, 2, 1]

/-- The 16 round keys, from the halves C and D of the round before. -/
def desKeysFrom : List Nat → BitVec 28 → BitVec 28 → List (BitVec 48)
  | [], _, _ => []
  | n :: ns, c, d =>
    let c' := c.rotateLeft n
    let d' := d.rotateLeft n
    permute desPC2 48 (c' ++ d') :: desKeysFrom ns c' d'

/-- The 16 round keys of a 64-bit key. -/
def desKeys (key : BitVec 64) : List (BitVec 48) :=
  let cd : BitVec 56 := permute desPC1 56 key
  desKeysFrom desShifts (cd.extractLsb' 28 28) (cd.extractLsb' 0 28)

/-- S-box k on the k-th 6-bit group of 48 bits, k from 1 to 8. -/
def desSbox (k : Nat) (x : BitVec 48) : BitVec 4 :=
  BitVec.ofNat 4 (sboxValue k (x.extractLsb' (48 - 6 * k) 6))

/-- The eight S-box outputs, S1's the most significant. -/
def desSboxes (x : BitVec 48) : BitVec 32 :=
  desSbox 1 x ++ desSbox 2 x ++ desSbox 3 x ++ desSbox 4 x ++
  desSbox 5 x ++ desSbox 6 x ++ desSbox 7 x ++ desSbox 8 x

/-- The DES round function `f(R, K) = P(S(E(R) ^ K))`. -/
def desF (r : Word) (k : BitVec 48) : Word := pword (desSboxes (expandE r ^^^ k))

/-- One DES round: `(L, R)` becomes `(R, L ^ f(R, K))`. -/
def desRound (lr : Word × Word) (k : BitVec 48) : Word × Word := (lr.2, lr.1 ^^^ desF lr.2 k)

/-- DES over a list of round keys: IP, the rounds, and FP of `R16 ‖ L16`. -/
def desBlock (keys : List (BitVec 48)) (x : BitVec 64) : BitVec 64 :=
  let y := permIP x
  let lr := keys.foldl desRound (y.extractLsb' 32 32, y.extractLsb' 0 32)
  permFP (lr.2 ++ lr.1)

/-- `DES_enc(k, b)` (R181). -/
def desEnc (k b : Bytes8) : Bytes8 := bytes64 (desBlock (desKeys (block64 k)) (block64 b))

/-- `DES_dec(k, b)`: the round keys in reverse order (R181). -/
def desDec (k b : Bytes8) : Bytes8 := bytes64 (desBlock (desKeys (block64 k)).reverse (block64 b))

/-- The 48-bit round subkey whose chunks c1..c8 two cooked words hold (R128, R172). -/
def subkey48 (ka kb : Word) : BitVec 48 :=
  window ka 24 ++ window kb 24 ++ window ka 16 ++ window kb 16 ++
  window ka 8 ++ window kb 8 ++ window ka 0 ++ window kb 0

end Sys2Proof.Machine
end

