-- ==== Sys2Proof/Safety.lean ====
section
/-! DEFINITION. What counts as a good state and a good run, in the terms the statements use: the invariant of the engine
(spec/10_state.md R25-R29), the port a host may drive, and the views of noninterference. -/

namespace Sys2Proof.Machine

/-- What holds in every state a run reaches. -/
structure Inv (s : State) : Prop where
  /-- "Legal ERRCODE values are 0 to 3" (R25, R230). -/
  err_legal : s.err.toNat ≤ 3
  /-- ksv = 1 only when KS holds a loaded schedule of direction ksdir (R27). -/
  loaded : s.ksv = true → ∃ key, s.ks = schedule key s.ksdir
  /-- ksdir "is 0 whenever ksv = 0", and an erased schedule is zero in every word (R26, R27). -/
  erased : s.ksv = false → s.ksdir = false ∧ s.ks = KeySched.zero
  /-- "1 ≤ remaining ≤ cmd_cycles(op)" (R28). -/
  pend_range : ∀ p, s.pend = some p → 1 ≤ p.remaining ∧ p.remaining ≤ Config.cmdCycles p.op
  /-- A TRANSFORM in flight has a loaded schedule (R206). -/
  pend_loaded : ∀ p, s.pend = some p → p.op = .transform → s.ksv = true
  /-- D is 0 for the operations that are not direction-aware (R70). -/
  pend_dir : ∀ p, s.pend = some p → p.op = .transform ∨ p.op = .kserase → p.d = false
  /-- The snapshots of a command in flight are KEY and DIN still: writes to both are dropped while busy (R28, R213). -/
  pend_snap : ∀ p, s.pend = some p → p.keysnap = s.key ∧ p.dinsnap = s.din
  /-- DONE was cleared by the write that issued the command in flight (R25, R211). -/
  busy_not_done : s.pend.isSome = true → s.done = false
  /-- While a command is in flight, only WRITE_WHILE_BUSY can have been raised since its issue (R235). -/
  busy_err : s.pend.isSome = true → s.err = 0 ∨ s.err = 3
  /-- "DONE = 0, so no command has completed yet": an idle engine with DONE = 0 is as reset left it (R263). -/
  fresh : s.pend = none → s.done = false → s.err = 0 ∧ s.ksv = false ∧ s.dout = Bytes8.zero
  /-- The working state is zero while no command is in flight (R29). -/
  idle_work : s.pend = none → s.work = Work.zero

/-- The cycle drives an access the port has, or none. -/
def cycleLegal (c : PortCycle) : Bool := (c.access.bind accessRefusal).isNone

/-- The cycle drives such an access and no reset. -/
def cycleRuns (c : PortCycle) : Bool := cycleLegal c && !c.rst

/-- `n` clock cycles in which the host does nothing. -/
def quietRun (n : Nat) (s : State) : Host.Outcome State Fault Refusal :=
  Host.Core.run Sys2Proof.core n { s with port := [] }

/-- What the host sees while busy or idle and when a command ends: STATUS's fields, the operation and the cycles left of the
command in flight, and the port. It holds no bit of KEY, DIN, DOUT or KS. -/
structure TimingView where
  /-- The cycles to come. -/
  port : List PortCycle
  /-- Operation, direction and cycles left of the command in flight. -/
  inFlight : Option (BusyOp × Bool × Nat)
  /-- STATUS.KSV. -/
  ksv : Bool
  /-- STATUS.KSDIR. -/
  ksdir : Bool
  /-- STATUS.DONE. -/
  done : Bool
  /-- STATUS.ERRCODE. -/
  err : BitVec 3
  deriving DecidableEq, Repr

/-- The timing view of a state. -/
def timingView (s : State) : TimingView :=
  { port := s.port, inFlight := s.pend.map fun p => (p.op, p.d, p.remaining),
    ksv := s.ksv, ksdir := s.ksdir, done := s.done, err := s.err }

/-- The views of a step's outcome. -/
def viewOutcome (o : Host.Outcome State Fault Refusal) : Host.Outcome TimingView Fault Refusal :=
  match o with
  | .next t => .next (timingView t)
  | .fault r => .fault r
  | .refused r => .refused r

end Sys2Proof.Machine
end

