-- ==== Sys2Proof/Certificates/Slice0/Obligations.lean ====
section
/-! DEFINITION. The statements about the machine, one for each rule or group of rules of spec/ named in its docstring. Nothing is
proved here. -/

open Sys2Proof Sys2Proof.Machine

/-! ### Encoding -/

/-- R71: decoding is a total function of the byte's fields, and `none` raises ILLEGAL_CMD. -/
def Obligations.DecodeFollowsFieldRule : Prop :=
  ∀ c : Byte,
    ((decodeByte c).toOption =
      if c.extractLsb' 4 4 ≠ 0 then none
      else
        match (c.extractLsb' 1 3).toNat, (c.extractLsb' 0 1).toNat with
        | 0, 0 => some Instr.nop
        | 1, 0 => some Instr.encrypt
        | 1, 1 => some Instr.decrypt
        | 2, 0 => some Instr.ksloadE
        | 2, 1 => some Instr.ksloadD
        | 3, 0 => some Instr.transform
        | 4, 0 => some Instr.kserase
        | _, _ => none) ∧
    ((decodeByte c).toOption = none → ∀ s : State, s.pend = none →
      writeCtrl c s = .next { s with done := true, err := 1 })

/-- R73: the 249 illegal bytes, their only effect, and NOP as the only command that just clears and sets the status. -/
def Obligations.IllegalBytesOnlyRecordError : Prop :=
  (∀ c : Byte, (decodeByte c).toOption = none ↔ c = 0x01 ∨ c = 0x07 ∨ 9 ≤ c.toNat) ∧
  ((List.range 256).filter fun n => (decodeByte (BitVec.ofNat 8 n)).toOption.isNone).length = 249 ∧
  (∀ (c : Byte) (s : State), (decodeByte c).toOption = none → s.pend = none →
    writeCtrl c s = .next { s with done := true, err := 1 }) ∧
  (∀ i : Instr, (∀ s : State, s.pend = none → exec i s = .next { s with done := true, err := 0 }) ↔ i = .nop)

/-- R70, R72: every command decodes from its own byte and from no other, the bytes are those of the opcode map, and
each command's fields are well formed. -/
def Obligations.EncodeDecodeAgree : Prop :=
  (∀ (c : Byte) (i : Instr), decodeByte c = .ok i ↔ c = encodeByte i) ∧
  (∀ i : Instr, decodeBytes (encode i) = .ok i ∧ i.wellFormed = true) ∧
  encodeByte .nop = 0x00 ∧ encodeByte .encrypt = 0x02 ∧ encodeByte .decrypt = 0x03 ∧
  encodeByte .ksloadE = 0x04 ∧ encodeByte .ksloadD = 0x05 ∧ encodeByte .transform = 0x06 ∧
  encodeByte .kserase = 0x08

/-- R77: the transaction word of a one-byte access, both ways, and the rule's three examples. -/
def Obligations.TransactionWordsAgree : Prop :=
  (∀ (off : Nat) (v : Byte), off ≤ 31 →
    ∃ t, transactionOfAccess (.write off [v]) = some t ∧ accessOfTransaction t = some (.write off [v]) ∧
      t.getLsbD 15 = true ∧ t.extractLsb' 13 2 = 0 ∧ (t.extractLsb' 8 5).toNat = off ∧ t.extractLsb' 0 8 = v) ∧
  (∀ off : Nat, off ≤ 31 →
    ∃ t, transactionOfAccess (.read off 1) = some t ∧ accessOfTransaction t = some (.read off 1) ∧
      t.getLsbD 15 = false ∧ t.extractLsb' 13 2 = 0 ∧ (t.extractLsb' 8 5).toNat = off ∧ t.extractLsb' 0 8 = 0) ∧
  (∀ (t : BitVec 16) (a : Access), accessOfTransaction t = some a → transactionOfAccess a = some t) ∧
  transactionOfAccess (.write 0x00 [encodeByte .encrypt]) = some 0x8002 ∧
  transactionOfAccess (.write 0x08 [0x17]) = some 0x8817 ∧
  transactionOfAccess (.read 0x01 1) = some 0x0100

/-- R50: the window is the 32 host addresses from `ENGINE_BASE`, wherever that is. -/
def Obligations.WindowOffsetsAreThirtyTwo : Prop :=
  (∀ base off : Nat, off ≤ 31 → windowOffset base (base + off) = some off) ∧
  (∀ base addr off : Nat, windowOffset base addr = some off → off ≤ 31 ∧ addr = base + off) ∧
  (∀ (off : Nat) (v : Byte), off ≤ 31 →
    accessAtAddress (Config.engineBase + off) (some v) = some (.write off [v]) ∧
    accessAtAddress (Config.engineBase + off) none = some (.read off 1))

/-! ### A step runs the decoded command -/

/-- When the port's next cycle writes a command's byte to CTRL, the step is `exec` of that command on the state without that
cycle, and then the clock edge of the command that was in flight when the cycle began (R51, R71, R211). -/
def Obligations.StepRunsDecodedCommand : Prop :=
  (∀ (s : State) (c : Byte) (i : Instr) (rest : List PortCycle),
    s.port = writeCycle 0x00 c :: rest → decodeByte c = .ok i →
      step s = afterAccess s.pend (exec i { s with port := rest, rdata := none }) ∧
      (s.pend = none → step s = exec i { s with port := rest, rdata := none })) ∧
  (∀ (s : State) (i : Instr), s.pend = none →
    step (s.withFetchWord 8 (encodeByte i).toNat) = exec i { s with rdata := none })

/-! ### The commands -/

/-- R201: NOP. -/
def Obligations.NopSetsDoneAndClearsError : Prop :=
  ∀ s : State,
    (s.pend = none →
      exec .nop s = .next { s with done := true, err := 0 } ∧
      (status s = 0x12 → ∃ t, exec .nop s = .next t ∧ status t = 0x02)) ∧
    (s.pend.isSome = true → exec .nop s = .next { s with err := if s.err = 0 then 3 else s.err })

/-- R202: ENCRYPT, from its issue to its completion, with the source's known-answer vector. -/
def Obligations.EncryptCompletes : Prop :=
  (∀ s : State, s.pend = none →
    ∃ t u n, exec .encrypt s = .next t ∧
      t = { s with
            done := false, err := 0
            pend := some { op := .crypt, d := false, keysnap := s.key, dinsnap := s.din,
                           remaining := Config.cmdCycles .crypt } } ∧
      (∀ k < Config.cmdCycles .crypt, ∃ v, quietRun k t = .next v ∧ busy v = true ∧ v.dout = s.dout) ∧
      quietRun (Config.cmdCycles .crypt) t = .next u ∧
      u = { s with
            dout := transform (schedule s.key false) s.din
            ks := KeySched.zero, ksv := false, ksdir := false
            done := true, err := 0, pend := none, work := Work.zero
            rdata := none, port := [], freeCount := n } ∧
      status u = 0x02) ∧
  (∀ s : State, s.pend.isSome = true → exec .encrypt s = .next { s with err := if s.err = 0 then 3 else s.err }) ∧
  transform (schedule #v[0x17, 0x52, 0x6B, 0x06, 0x23, 0x4E, 0x58, 0x07] false)
      #v[0x74, 0x65, 0x73, 0x74, 0x00, 0x00, 0x00, 0x00] =
    #v[0x2f, 0x98, 0x1d, 0xc5, 0x48, 0xe0, 0x9e, 0xc2]

/-- R203: DECRYPT, from its issue to its completion, with the known-answer vector read backwards. -/
def Obligations.DecryptCompletes : Prop :=
  (∀ s : State, s.pend = none →
    ∃ t u n, exec .decrypt s = .next t ∧
      t = { s with
            done := false, err := 0
            pend := some { op := .crypt, d := true, keysnap := s.key, dinsnap := s.din,
                           remaining := Config.cmdCycles .crypt } } ∧
      (∀ k < Config.cmdCycles .crypt, ∃ v, quietRun k t = .next v ∧ busy v = true ∧ v.dout = s.dout) ∧
      quietRun (Config.cmdCycles .crypt) t = .next u ∧
      u = { s with
            dout := transform (schedule s.key true) s.din
            ks := KeySched.zero, ksv := false, ksdir := false
            done := true, err := 0, pend := none, work := Work.zero
            rdata := none, port := [], freeCount := n } ∧
      status u = 0x02) ∧
  (∀ s : State, s.pend.isSome = true → exec .decrypt s = .next { s with err := if s.err = 0 then 3 else s.err }) ∧
  transform (schedule #v[0x17, 0x52, 0x6B, 0x06, 0x23, 0x4E, 0x58, 0x07] true)
      #v[0x2f, 0x98, 0x1d, 0xc5, 0x48, 0xe0, 0x9e, 0xc2] =
    #v[0x74, 0x65, 0x73, 0x74, 0x00, 0x00, 0x00, 0x00]

/-- R204: KSLOAD.E, from its issue to its completion; it overwrites whatever KS held, and the example's words. -/
def Obligations.KsloadEncryptCompletes : Prop :=
  (∀ s : State, s.pend = none →
    ∃ t u n, exec .ksloadE s = .next t ∧
      t = { s with
            done := false, err := 0
            pend := some { op := .ksload, d := false, keysnap := s.key, dinsnap := s.din,
                           remaining := Config.cmdCycles .ksload } } ∧
      (∀ k < Config.cmdCycles .ksload, ∃ v, quietRun k t = .next v ∧ busy v = true ∧ v.ks = s.ks) ∧
      quietRun (Config.cmdCycles .ksload) t = .next u ∧
      u = { s with
            ks := schedule s.key false, ksv := true, ksdir := false
            done := true, err := 0, pend := none, work := Work.zero
            rdata := none, port := [], freeCount := n } ∧
      status u = 0x06) ∧
  (∀ s : State, s.pend.isSome = true → exec .ksloadE s = .next { s with err := if s.err = 0 then 3 else s.err }) ∧
  ksWord (schedule Config.defaultKey false) 0 = 0x292b200b ∧ ksWord (schedule Config.defaultKey false) 1 = 0x39362e0a

/-- R205: KSLOAD.D, from its issue to its completion; it overwrites whatever KS held, and the example's words. -/
def Obligations.KsloadDecryptCompletes : Prop :=
  (∀ s : State, s.pend = none →
    ∃ t u n, exec .ksloadD s = .next t ∧
      t = { s with
            done := false, err := 0
            pend := some { op := .ksload, d := true, keysnap := s.key, dinsnap := s.din,
                           remaining := Config.cmdCycles .ksload } } ∧
      (∀ k < Config.cmdCycles .ksload, ∃ v, quietRun k t = .next v ∧ busy v = true ∧ v.ks = s.ks) ∧
      quietRun (Config.cmdCycles .ksload) t = .next u ∧
      u = { s with
            ks := schedule s.key true, ksv := true, ksdir := true
            done := true, err := 0, pend := none, work := Work.zero
            rdata := none, port := [], freeCount := n } ∧
      status u = 0x0E) ∧
  (∀ s : State, s.pend.isSome = true → exec .ksloadD s = .next { s with err := if s.err = 0 then 3 else s.err }) ∧
  ksWord (schedule Config.defaultKey true) 0 = 0x3e1f1802 ∧ ksWord (schedule Config.defaultKey true) 1 = 0x0e2a3830

/-- R206: TRANSFORM with a loaded schedule, from its issue to its completion; KS, ksv and ksdir are unchanged. -/
def Obligations.TransformCompletesWithSchedule : Prop :=
  (∀ s : State, s.pend = none → s.ksv = true →
    ∃ t u n, exec .transform s = .next t ∧
      t = { s with
            done := false, err := 0
            pend := some { op := .transform, d := false, keysnap := s.key, dinsnap := s.din,
                           remaining := Config.cmdCycles .transform } } ∧
      (∀ k < Config.cmdCycles .transform, ∃ v, quietRun k t = .next v ∧ busy v = true ∧ v.dout = s.dout) ∧
      quietRun (Config.cmdCycles .transform) t = .next u ∧
      u = { s with
            dout := transform s.ks s.din
            done := true, err := 0, pend := none, work := Work.zero
            rdata := none, port := [], freeCount := n }) ∧
  (∀ s : State, s.pend.isSome = true → exec .transform s = .next { s with err := if s.err = 0 then 3 else s.err })

/-- R206: TRANSFORM without a loaded schedule is rejected at issue, whatever KS holds, and changes nothing but STATUS. -/
def Obligations.TransformWithoutScheduleIsRejected : Prop :=
  ∀ s : State, s.pend = none → s.ksv = false →
    exec .transform s = .next { s with done := true, err := 2 } ∧
    (s.ksdir = false → ∃ t, exec .transform s = .next t ∧ status t = 0x22)

/-- R207: KSERASE, from its issue to its completion, whether or not a schedule is loaded. -/
def Obligations.KseraseCompletes : Prop :=
  (∀ s : State, s.pend = none →
    ∃ t u n, exec .kserase s = .next t ∧
      t = { s with
            done := false, err := 0
            pend := some { op := .kserase, d := false, keysnap := s.key, dinsnap := s.din,
                           remaining := Config.cmdCycles .kserase } } ∧
      (∀ k < Config.cmdCycles .kserase, ∃ v, quietRun k t = .next v ∧ busy v = true ∧ v.ks = s.ks) ∧
      quietRun (Config.cmdCycles .kserase) t = .next u ∧
      u = { s with
            ks := KeySched.zero, ksv := false, ksdir := false
            done := true, err := 0, pend := none, work := Work.zero
            rdata := none, port := [], freeCount := n } ∧
      status u = 0x02) ∧
  (∀ s : State, s.pend.isSome = true → exec .kserase s = .next { s with err := if s.err = 0 then 3 else s.err })

/-- R208: an illegal byte written while not busy, for every illegal byte. -/
def Obligations.IllegalCommandChangesOnlyStatus : Prop :=
  (∀ (s : State) (c : Byte), s.pend = none → (decodeByte c).toOption = none →
    writeReg 0x00 c s = .next { s with done := true, err := 1 }) ∧
  (∀ c : Byte, c = 0x01 ∨ c = 0x07 ∨ c = 0x09 ∨ 0x0A ≤ c.toNat → (decodeByte c).toOption = none) ∧
  (∀ s : State, s.pend = none → status s = 0x06 → ∃ t, writeReg 0x00 0x07 s = .next t ∧ status t = 0x16)

/-! ### Host accesses -/

/-- R209: a host write while no command is in flight, at each of the 32 offsets; while busy the write is R213's. -/
def Obligations.HostWriteStoresKeyAndDin : Prop :=
  ∀ (s : State) (off : Nat) (v : Byte), off ≤ 31 →
    (s.pend = none →
      (8 ≤ off ∧ off ≤ 15 →
        ∃ k, writeReg off v s = .next { s with key := k } ∧
          ∀ j < 8, byteAt k j = if j = off - 8 then v else byteAt s.key j) ∧
      (16 ≤ off ∧ off ≤ 23 →
        ∃ b, writeReg off v s = .next { s with din := b } ∧
          ∀ j < 8, byteAt b j = if j = off - 16 then v else byteAt s.din j) ∧
      (off = 0 →
        (∀ i, decodeByte v = .ok i → writeReg off v s = exec i s) ∧
        (∀ e, decodeByte v = .error e → writeReg off v s = .next { s with done := true, err := 1 })) ∧
      ((1 ≤ off ∧ off ≤ 7) ∨ 24 ≤ off → writeReg off v s = .next s)) ∧
    (s.pend.isSome = true → writeReg off v s = .next (busyWrite off s))

/-- R210: a host read at each of the 32 offsets, with no side effect, busy or not. -/
def Obligations.HostReadReturnsRegister : Prop :=
  ∀ (s : State) (off : Nat) (rest : List PortCycle), off ≤ 31 → s.port = readCycle off :: rest →
    step s = .next (engineEdge s.pend
      { s with
        port := rest
        rdata := some
          (if off = 0 then 0x00
           else if off = 1 then status s
           else if off ≤ 7 then 0x00
           else if off ≤ 15 then 0x00
           else if off ≤ 23 then s.din.getD (off - 16) 0
           else s.dout.getD (off - 24) 0) }) ∧
    ((status s).getLsbD 0 = true ↔ s.pend.isSome = true)

/-- R213: a write while busy changes ERRCODE at most, and the command in flight goes on as if the write had not been made. -/
def Obligations.WriteWhileBusyIsDropped : Prop :=
  ∀ (s : State) (off : Nat) (v : Byte) (rest : List PortCycle), off ≤ 31 → s.pend.isSome = true →
    writeReg off v s =
      .next { s with err := if (off = 0 ∨ (8 ≤ off ∧ off ≤ 23)) ∧ s.err = 0 then 3 else s.err } ∧
    ∃ t, step { s with port := idleCycle :: rest } = .next t ∧
      step { s with port := writeCycle off v :: rest } =
        .next { t with err := if (off = 0 ∨ (8 ≤ off ∧ off ≤ 23)) ∧ s.err = 0 then 3 else s.err }

/-- R57: the reserved offsets read 0x00 and ignore writes at any time, as STATUS and DOUT do; no offset is beyond 31. -/
def Obligations.ReservedAndReadOnlyOffsetsIgnoreWrites : Prop :=
  (∀ (s : State) (off : Nat), 2 ≤ off ∧ off ≤ 7 → readReg off s = 0x00) ∧
  (∀ (s : State) (off : Nat) (v : Byte), (1 ≤ off ∧ off ≤ 7) ∨ (24 ≤ off ∧ off ≤ 31) → writeReg off v s = .next s) ∧
  (∀ (s : State) (rest : List PortCycle) (off : Nat) (v : Byte) (rst : Bool), 31 < off →
    step { s with port := { rst := rst, access := some (.write off [v]) } :: rest } = .refused (.offsetOutsideWindow off) ∧
    step { s with port := { rst := rst, access := some (.read off 1) } :: rest } = .refused (.offsetOutsideWindow off))

/-- R54: an access of another width than one byte is refused; it is not split, merged or given a value. -/
def Obligations.OtherWidthsAreRefused : Prop :=
  (∀ (s : State) (rest : List PortCycle) (off bytes : Nat) (rst : Bool), bytes ≠ 1 →
    step { s with port := { rst := rst, access := some (.read off bytes) } :: rest } = .refused (.accessWidth bytes)) ∧
  (∀ (s : State) (rest : List PortCycle) (off : Nat) (data : List Byte) (rst : Bool), data.length ≠ 1 →
    step { s with port := { rst := rst, access := some (.write off data) } :: rest } = .refused (.accessWidth data.length))

/-- R214: no step faults, a step is refused exactly for an access the port does not have, and every other step has a next
state. -/
def Obligations.StepStopsOnlyOnAccessesThePortLacks : Prop :=
  ∀ s : State,
    (∀ f, step s ≠ .fault f) ∧
    (∀ r, step s = .refused r ↔
      ∃ c rest a, s.port = c :: rest ∧ c.access = some a ∧ accessRefusal a = some r) ∧
    ((∃ t, step s = .next t) ↔ ∀ c rest, s.port = c :: rest → cycleLegal c = true)

/-- Eight KEY writes in ascending order store the whole key, and eight DIN writes the whole block, and nothing else (the
`setkey` and `setblk` expansions of R76, steps 3 and 4 of R265). -/
def Obligations.EightWritesStoreKeyOrBlock : Prop :=
  ∀ (s : State) (b : Bytes8) (rest : List PortCycle), s.pend = none →
    Host.Core.run Sys2Proof.core 8
      { s with port := ((List.range 8).map fun i => writeCycle (0x08 + i) (byteAt b i)) ++ rest } =
        .next { s with key := b, port := rest, rdata := none } ∧
    Host.Core.run Sys2Proof.core 8
      { s with port := ((List.range 8).map fun i => writeCycle (0x10 + i) (byteAt b i)) ++ rest } =
        .next { s with din := b, port := rest, rdata := none }

/-- R275: the first STATUS read after a CTRL write already reflects the new command. -/
def Obligations.FirstPollSeesIssuedCommand : Prop :=
  ∀ (s : State) (i : Instr) (rest : List PortCycle), s.pend = none →
    s.port = writeCycle 0x00 (encodeByte i) :: readCycle 0x01 :: rest →
    ∃ u t, exec i { s with port := readCycle 0x01 :: rest, rdata := none } = .next u ∧
      Host.Core.run Sys2Proof.core 2 s = .next t ∧ t.rdata = some (status u)

/-! ### Status and errors -/

/-- R25, R32: the layout of STATUS. -/
def Obligations.StatusLayout : Prop :=
  ∀ s : State,
    (status s).getLsbD 0 = s.pend.isSome ∧ (status s).getLsbD 1 = s.done ∧ (status s).getLsbD 2 = s.ksv ∧
    (status s).getLsbD 3 = s.ksdir ∧ (status s).extractLsb' 4 3 = s.err ∧ (status s).getLsbD 7 = false

/-- R231: the first error is kept until the next accepted CTRL write, which clears ERRCODE before decoding; a nonzero ERRCODE
survives every other cycle without reset (reads, KEY and DIN writes, writes while busy, idle cycles and completions). Reset
clears ERRCODE too (R260), and is stated in `ResetWinsAndResetsEverything`. -/
def Obligations.FirstErrorIsKept : Prop :=
  (∀ (e : EngineError) (s : State), raise e s = { s with err := if s.err = 0 then errorCode e else s.err }) ∧
  (∀ (e f : EngineError) (s : State), raise f (raise e s) = raise e s) ∧
  (∀ (c : Byte) (s : State) (d : Bool) (e : BitVec 3), s.pend = none →
    writeReg 0x00 c { s with done := d, err := e } = writeReg 0x00 c s) ∧
  (∀ (s t : State) (rest : List PortCycle), s.port = readCycle 0x01 :: rest → step s = .next t → t.err = s.err) ∧
  (∀ s t : State, step s = .next t → (takeCycle s).1.rst = false →
    ¬ (s.pend = none ∧ ∃ c, (takeCycle s).1 = writeCycle 0x00 c) → s.err ≠ 0 → t.err = s.err)

/-- R235: which error is recorded where several events meet, and what wins on one edge. -/
def Obligations.SimultaneousEventsPriority : Prop :=
  (∀ (s : State) (c : Byte), s.pend = none → ∃ t, writeReg 0x00 c s = .next t ∧
    t.err = (match decodeByte c with
      | .error _ => 1
      | .ok .transform => if s.ksv = true then 0 else 2
      | .ok _ => 0)) ∧
  (∀ (s : State) (off : Nat) (v : Byte), s.pend.isSome = true → ∃ t, writeReg off v s = .next t ∧
    (t.err = s.err ∨ (s.err = 0 ∧ t.err = 3))) ∧
  (∀ (s : State) (p : Pending) (off : Nat) (v : Byte) (rest : List PortCycle),
    s.pend = some p → p.remaining ≤ 1 → (off = 0 ∨ (8 ≤ off ∧ off ≤ 23)) → s.port = writeCycle off v :: rest →
    ∃ t, step s = .next t ∧ t.pend = none ∧ t.done = true ∧ (t.err = if s.err = 0 then 3 else s.err) ∧
      t.dout = (commitResults p s).dout ∧ t.ks = (commitResults p s).ks ∧
      t.ksv = (commitResults p s).ksv ∧ t.ksdir = (commitResults p s).ksdir) ∧
  (∀ (s : State) (c : PortCycle) (rest : List PortCycle), s.port = c :: rest → c.rst = true → cycleLegal c = true →
    ∃ r, step s = .next { State.reset with port := rest, rdata := r, freeCount := s.freeCount })

/-! ### Reset -/

/-- R260, R261: a cycle with `rst` = 1, whatever the state, the command in flight and the access of the cycle. -/
def Obligations.ResetWinsAndResetsEverything : Prop :=
  (∀ (s : State) (c : PortCycle) (rest : List PortCycle), s.port = c :: rest → c.rst = true → cycleLegal c = true →
    step s = .next
      { key := #v[0x17, 0x52, 0x6B, 0x06, 0x23, 0x4E, 0x58, 0x07]
        din := Vector.replicate 8 0
        dout := Vector.replicate 8 0
        ks := Vector.replicate 32 0
        ksv := false, ksdir := false, done := false, err := 0, pend := none
        work := { pc1m := Vector.replicate 56 false, pcr := Vector.replicate 56 false, raw := Vector.replicate 32 0,
                  halfL := 0, halfR := 0, round := 0 }
        rdata := match c.access with
          | some (.read _ _) => some 0x00
          | _ => none
        port := rest
        freeCount := s.freeCount }) ∧
  (∀ (s t : State) (c : PortCycle) (rest : List PortCycle), s.port = c :: rest → c.rst = true →
    step s = .next t → status t = 0x00) ∧
  (∀ (s : State) (n : Nat) (rest : List PortCycle),
    Host.Core.run Sys2Proof.core (n + 1) { s with port := List.replicate (n + 1) resetCycle ++ rest } =
    Host.Core.run Sys2Proof.core 1 { s with port := resetCycle :: rest })

/-- R263, R264: after reset the engine is idle, holds no schedule, has completed no command, holds the default key, and takes
any command in its first cycle. -/
def Obligations.ResetStateIsIdleWithDefaultKey : Prop :=
  State.reset.pend = none ∧ State.reset.ksv = false ∧ State.reset.done = false ∧ status State.reset = 0x00 ∧
  State.reset.key = #v[0x17, 0x52, 0x6B, 0x06, 0x23, 0x4E, 0x58, 0x07] ∧
  (∀ i : Instr, ∃ t, step (State.reset.withFetchWord 8 (encodeByte i).toNat) = .next t ∧
    exec i State.reset = .next t ∧ t.err ≠ 3)

/-! ### Invariants and whole-machine rules -/

/-- The invariant holds at reset. -/
def Obligations.ResetSatisfiesEngineInvariant : Prop := Inv State.reset

/-- Every step keeps the invariant: legal error codes, KS as ksv and ksdir describe it, a command in flight as R28 describes
it, DONE and ERRCODE as R25 and R235 describe them, working state zero while idle. -/
def Obligations.StepKeepsEngineInvariant : Prop :=
  ∀ s t : State, Inv s → step s = .next t → Inv t

/-- R212: a command in flight counts down one cycle at each edge and commits all its results at the edge `remaining` cycles
later, whatever the host reads or writes meanwhile; until then no result shows. -/
def Obligations.CommandInFlightCompletes : Prop :=
  ∀ (s : State) (p : Pending), Inv s → s.pend = some p →
    (∀ c ∈ s.port.take p.remaining, cycleRuns c = true) →
    (∀ k < p.remaining, ∃ u, Host.Core.run Sys2Proof.core k s = .next u ∧
      u.pend = some { p with remaining := p.remaining - k } ∧ u.done = false ∧
      u.key = s.key ∧ u.din = s.din ∧ u.dout = s.dout ∧ u.ks = s.ks ∧ u.ksv = s.ksv ∧ u.ksdir = s.ksdir) ∧
    ∃ t, Host.Core.run Sys2Proof.core p.remaining s = .next t ∧
      t.pend = none ∧ t.done = true ∧ t.work = Work.zero ∧ t.port = s.port.drop p.remaining ∧
      t.key = s.key ∧ t.din = s.din ∧ (t.err = s.err ∨ (s.err = 0 ∧ t.err = 3)) ∧
      (s.port = [] → t.err = s.err) ∧
      match p.op with
      | .crypt =>
        t.dout = transform (schedule p.keysnap p.d) p.dinsnap ∧
        t.ks = KeySched.zero ∧ t.ksv = false ∧ t.ksdir = false
      | .ksload => t.dout = s.dout ∧ t.ks = schedule p.keysnap p.d ∧ t.ksv = true ∧ t.ksdir = p.d
      | .transform => t.dout = transform s.ks p.dinsnap ∧ t.ks = s.ks ∧ t.ksv = s.ksv ∧ t.ksdir = s.ksdir
      | .kserase => t.dout = s.dout ∧ t.ks = KeySched.zero ∧ t.ksv = false ∧ t.ksdir = false

/-- R23, R55: DOUT changes only at reset and at the completion of ENCRYPT, DECRYPT or TRANSFORM, and then to the whole result. -/
def Obligations.DoutChangesOnlyAtCompletion : Prop :=
  ∀ s t : State, step s = .next t →
    t.dout = s.dout ∨ ((takeCycle s).1.rst = true ∧ t.dout = Bytes8.zero) ∨
    ∃ p, s.pend = some p ∧ p.remaining ≤ 1 ∧ t.pend = none ∧ t.done = true ∧
      ((p.op = .crypt ∧ t.dout = transform (schedule p.keysnap p.d) p.dinsnap) ∨
       (p.op = .transform ∧ t.dout = transform s.ks p.dinsnap))

/-- R26, R27, R272, R273: KS, ksv and ksdir change only at reset and at the completion of a command that loads or erases the
schedule; no KEY write changes them. -/
def Obligations.ScheduleChangesOnlyAtCompletion : Prop :=
  ∀ s t : State, step s = .next t →
    (t.ks = s.ks ∧ t.ksv = s.ksv ∧ t.ksdir = s.ksdir) ∨
    ((takeCycle s).1.rst = true ∧ t.ks = KeySched.zero ∧ t.ksv = false ∧ t.ksdir = false) ∨
    ∃ p, s.pend = some p ∧ p.remaining ≤ 1 ∧ t.pend = none ∧ t.done = true ∧
      (((p.op = .crypt ∨ p.op = .kserase) ∧ t.ks = KeySched.zero ∧ t.ksv = false ∧ t.ksdir = false) ∨
       (p.op = .ksload ∧ t.ks = schedule p.keysnap p.d ∧ t.ksv = true ∧ t.ksdir = p.d))

/-- R20, R22: the engine never writes KEY or DIN; they change only at reset and by a host write to their own offsets while no
command is in flight. -/
def Obligations.KeyAndDinChangeOnlyByHostWrites : Prop :=
  ∀ s t : State, step s = .next t → (takeCycle s).1.rst = false →
    (t.key = s.key ∨ (s.pend = none ∧ ∃ off v rest, s.port = writeCycle off v :: rest ∧ 8 ≤ off ∧ off ≤ 15 ∧
      ∀ j < 8, byteAt t.key j = if j = off - 8 then v else byteAt s.key j)) ∧
    (t.din = s.din ∨ (s.pend = none ∧ ∃ off v rest, s.port = writeCycle off v :: rest ∧ 16 ≤ off ∧ off ≤ 23 ∧
      ∀ j < 8, byteAt t.din j = if j = off - 16 then v else byteAt s.din j))

/-- R214, R60: every clock cycle is a reset, or the cycle's access followed by the completion where it is due, in the step
relation without cycles; the read value agrees. -/
def Obligations.ClockedEngineRefinesStepRelation : Prop :=
  ∀ s t : State, step s = .next t →
    ∃ u outs, runEvents (cycleEvents (takeCycle s).1 s) s.abs = some (u, outs) ∧ u.abs = t.abs ∧
      ((takeCycle s).1.rst = false → outs = t.rdata.toList)

/-- R277, R178: what the host can see of time never depends on KEY, DIN, DOUT or KS: from states that agree on STATUS, on the
operation and cycles left of the command in flight and on the port, a step gives states that agree on them again. -/
def Obligations.TimingIndependentOfKeyAndData : Prop :=
  ∀ s₁ s₂ : State, timingView s₁ = timingView s₂ → viewOutcome (step s₁) = viewOutcome (step s₂)

/-- R239, R20, R26: no access returns a bit of KEY, of KS or of a key snapshot: what a read returns depends on DIN, DOUT and
STATUS alone. -/
def Obligations.KeyAndScheduleAreNotReadable : Prop :=
  ∀ s₁ s₂ t₁ t₂ : State,
    s₁.port = s₂.port → s₁.din = s₂.din → s₁.dout = s₂.dout → status s₁ = status s₂ →
    step s₁ = .next t₁ → step s₂ = .next t₂ → t₁.rdata = t₂.rdata

/-! ### Tables -/

/-- R108: every entry of the eight SP tables is the one the construction from Sk, P and the rotation gives. -/
def Obligations.SpTablesFollowConstruction : Prop :=
  (∀ k, 1 ≤ k → k ≤ 8 → ∀ v : BitVec 6,
    sp k v = rotl (pword (BitVec.ofNat 32 (sboxValue k v) <<< (32 - 4 * k))) 1) ∧
  (∀ (x : Word) (i : Nat), 1 ≤ i → i ≤ 32 → bitAt (pword x) i = bitAt x (P.getD (i - 1) 0))

/-- R110: the masks of the tables, that they are disjoint and cover the word, and that OR, XOR and addition of the eight lookups
agree. -/
def Obligations.SpTablesWriteDisjointBits : Prop :=
  spMask 1 = 0x01010404 ∧ spMask 2 = 0x80108020 ∧ spMask 3 = 0x08020208 ∧ spMask 4 = 0x00802081 ∧
  spMask 5 = 0x42080100 ∧ spMask 6 = 0x20404010 ∧ spMask 7 = 0x04200802 ∧ spMask 8 = 0x10041040 ∧
  (∀ j k, 1 ≤ j → j ≤ 8 → 1 ≤ k → k ≤ 8 → j ≠ k → spMask j &&& spMask k = 0) ∧
  spMask 1 ||| spMask 2 ||| spMask 3 ||| spMask 4 ||| spMask 5 ||| spMask 6 ||| spMask 7 ||| spMask 8 = 0xffffffff ∧
  ∀ v : Nat → BitVec 6,
    sp 1 (v 1) ||| sp 2 (v 2) ||| sp 3 (v 3) ||| sp 4 (v 4) ||| sp 5 (v 5) ||| sp 6 (v 6) ||| sp 7 (v 7) ||| sp 8 (v 8) =
      (sp 1 (v 1) ^^^ sp 2 (v 2) ^^^ sp 3 (v 3) ^^^ sp 4 (v 4) ^^^ sp 5 (v 5) ^^^ sp 6 (v 6) ^^^ sp 7 (v 7) ^^^ sp 8 (v 8)) ∧
    sp 1 (v 1) ||| sp 2 (v 2) ||| sp 3 (v 3) ||| sp 4 (v 4) ||| sp 5 (v 5) ||| sp 6 (v 6) ||| sp 7 (v 7) ||| sp 8 (v 8) =
      sp 1 (v 1) + sp 2 (v 2) + sp 3 (v 3) + sp 4 (v 4) + sp 5 (v 5) + sp 6 (v 6) + sp 7 (v 7) + sp 8 (v 8)

/-- R111, R112: FP is the inverse of IP, as tables and on every 64-bit value. -/
def Obligations.FinalPermutationInvertsInitial : Prop :=
  (∀ i, 1 ≤ i → i ≤ 64 → FP.getD (IP.getD (i - 1) 0 - 1) 0 = i) ∧
  (∀ x : BitVec 64, permFP (permIP x) = x ∧ permIP (permFP x) = x)

/-! ### Key schedule -/

/-- R102, R121: a PC1 entry reads its key bit from the least significant end of its byte, and bit 7 of a key byte never
matters. -/
def Obligations.KeyBitsReadFromLeastSignificant : Prop :=
  (∀ (key : Bytes8) (j : Nat), j < 56 →
    pc1m key j = (byteAt key (PC1.getD j 0 / 8)).getLsbD (PC1.getD j 0 % 8)) ∧
  (∀ j < 56, PC1.getD j 0 % 8 ≠ 7) ∧
  (∀ (k₁ k₂ : Bytes8) (d : Bool), (∀ i < 8, byteAt k₁ i &&& 0x7F = byteAt k₂ i &&& 0x7F) → schedule k₁ d = schedule k₂ d)

/-- R122-R125: round i writes its raw-word pair at slot i (encrypt) or 15 - i (decrypt), every slot is written by exactly one
round, the bits of a raw word are the PC2 selections of the rotated halves, and every raw word is below 2^24. -/
def Obligations.RawWordsFillTheirSlots : Prop :=
  ∀ (key : Bytes8) (d : Bool),
    (∀ i < 16, ∀ m, m = (if d then 2 * (15 - i) else 2 * i) →
      ∀ j < 24,
        (ksWord (raw key d) m).getLsbD (23 - j) = pcr key i (PC2.getD j 0) ∧
        (ksWord (raw key d) (m + 1)).getLsbD (23 - j) = pcr key i (PC2.getD (j + 24) 0)) ∧
    (∀ i < 16, ∀ j < 28,
      pcr key i j = pc1m key ((j + TOTROT.getD i 0) % 28) ∧
      pcr key i (28 + j) = pc1m key (28 + (j + TOTROT.getD i 0) % 28)) ∧
    (∀ w < 16, ∃! i, i < 16 ∧ 2 * w = (if d then 2 * (15 - i) else 2 * i)) ∧
    (∀ w < 32, (ksWord (raw key d) w).toNat < 2 ^ 24)

/-- R126: the decrypt schedule is the encrypt schedule with its 16 pairs in reverse order, raw and cooked. -/
def Obligations.DecryptScheduleReversesPairs : Prop :=
  ∀ (key : Bytes8) (s b : Nat), s < 16 → b < 2 →
    ksWord (raw key true) (2 * s + b) = ksWord (raw key false) (2 * (15 - s) + b) ∧
    ksWord (schedule key true) (2 * s + b) = ksWord (schedule key false) (2 * (15 - s) + b)

/-- R128: the layout of a cooked pair, the four empty bit pairs of each word, that no key bit is lost or duplicated, and that
chunk ck is what is XORed into window k. -/
def Obligations.CookedWordLayout : Prop :=
  (∀ r0 r1 : Word,
    cookEven r0 r1 = (0#2 ++ r0.extractLsb' 18 6 ++ 0#2 ++ r0.extractLsb' 6 6 ++
                      0#2 ++ r1.extractLsb' 18 6 ++ 0#2 ++ r1.extractLsb' 6 6 : BitVec 32) ∧
    cookOdd r0 r1 = (0#2 ++ r0.extractLsb' 12 6 ++ 0#2 ++ r0.extractLsb' 0 6 ++
                     0#2 ++ r1.extractLsb' 12 6 ++ 0#2 ++ r1.extractLsb' 0 6 : BitVec 32) ∧
    subkey48 (cookEven r0 r1) (cookOdd r0 r1) = (r0.extractLsb' 0 24 ++ r1.extractLsb' 0 24 : BitVec 48)) ∧
  (∀ (key : Bytes8) (d : Bool) (p : Nat), p < 16 →
    ksWord (schedule key d) (2 * p) = cookEven (ksWord (raw key d) (2 * p)) (ksWord (raw key d) (2 * p + 1)) ∧
    ksWord (schedule key d) (2 * p + 1) = cookOdd (ksWord (raw key d) (2 * p)) (ksWord (raw key d) (2 * p + 1))) ∧
  (∀ (key : Bytes8) (d : Bool) (i : Nat), ksWord (schedule key d) i &&& 0xC0C0C0C0 = 0) ∧
  (∀ (x k : Word) (lo : Nat), window (x ^^^ k) lo = window x lo ^^^ window k lo)

/-- R131: the corner cases of the generator. For a key whose bits that PC1 reads are all 0, every raw word and every cooked
word is 0, in both directions. -/
def Obligations.WeakKeySchedules : Prop :=
  (∀ (key : Bytes8) (d : Bool), (∀ i < 8, byteAt key i = 0x00 ∨ byteAt key i = 0x80) →
    ∀ i, ksWord (raw key d) i = 0) ∧
  (∀ (key : Bytes8) (d : Bool), (∀ i < 8, byteAt key i = 0x00 ∨ byteAt key i = 0x80) →
    schedule key d = KeySched.zero) ∧
  (∀ (key : Bytes8) (d : Bool), (∀ i < 8, byteAt key i = 0x7F ∨ byteAt key i = 0xFF) →
    schedule key d = Vector.replicate 32 0x3f3f3f3f) ∧
  (∀ (key b : Bytes8) (d : Bool),
    (∀ i < 8, byteAt key i = 0x00 ∨ byteAt key i = 0x80) ∨ (∀ i < 8, byteAt key i = 0x7F ∨ byteAt key i = 0xFF) →
    transform (schedule key d) (transform (schedule key d) b) = b) ∧
  (∀ (k₁ k₂ : Bytes8) (d : Bool), (∀ i < 8, byteAt k₁ i &&& 0x7F = byteAt k₂ i &&& 0x7F) → schedule k₁ d = schedule k₂ d) ∧
  (∀ s : State, s.pend = none → s.ks = KeySched.zero → s.ksv = false →
    exec .transform s = .next { s with done := true, err := 2 })

/-! ### Packer and permutation unit -/

/-- R142: unpacking a packed block gives the block, and packing two unpacked words gives the words. -/
def Obligations.PackUnpackIdentities : Prop :=
  (∀ b : Bytes8, unpack (pack b).1 (pack b).2 = b) ∧ (∀ w0 w1 : Word, pack (unpack w0 w1) = (w0, w1))

/-- R150: the swap step is its own inverse where no mask bit is shifted out, and it exchanges the masked bits. -/
def Obligations.SwapStepIsInvolution : Prop :=
  (∀ (a b m : Word) (n : Nat), n ≤ 31 → (m <<< n) >>> n = m →
    swapmove (swapmove a b n m).1 (swapmove a b n m).2 n m = (a, b)) ∧
  (∀ (a b m : Word) (n i : Nat), n ≤ 31 → (m <<< n) >>> n = m → m.getLsbD i = true →
    (swapmove a b n m).2.getLsbD i = a.getLsbD (i + n) ∧ (swapmove a b n m).1.getLsbD (i + n) = b.getLsbD i) ∧
  (((0x0f0f0f0f : Word) <<< 4) >>> 4 = 0x0f0f0f0f ∧ ((0x0000ffff : Word) <<< 16) >>> 16 = 0x0000ffff ∧
   ((0x33333333 : Word) <<< 2) >>> 2 = 0x33333333 ∧ ((0x00ff00ff : Word) <<< 8) >>> 8 = 0x00ff00ff ∧
   ((0xaaaaaaaa : Word) <<< 0) >>> 0 = 0xaaaaaaaa)

/-- R152: the word form of the initial permutation is the table IP with each half rotated left by one bit. -/
def Obligations.InitialPermutationTableForm : Prop :=
  (∀ w0 w1 : Word,
    ipw w0 w1 = (rotl ((permIP (w0 ++ w1)).extractLsb' 32 32) 1, rotl ((permIP (w0 ++ w1)).extractLsb' 0 32) 1)) ∧
  permIP 0x0123456789ABCDEF = 0xCC00CCFFF0AAF0AA ∧ ipw 0x01234567 0x89abcdef = (0x980199ff, 0xe155e155)

/-- R155: the word form of the final permutation is the table FP of the halves rotated right by one bit, the right half
first. -/
def Obligations.FinalPermutationTableForm : Prop :=
  ∀ l r : Word, (fpw l r).1 ++ (fpw l r).2 = permFP (rotr r 1 ++ rotr l 1)

/-- R156: the final permutation undoes the initial one once the halves are exchanged, and not otherwise. -/
def Obligations.PermutationsUndoEachOther : Prop :=
  (∀ a b : Word, fpw (ipw a b).2 (ipw a b).1 = (a, b)) ∧
  (∀ l r : Word, ipw (fpw l r).1 (fpw l r).2 = (r, l)) ∧
  (∃ a b : Word, fpw (ipw a b).1 (ipw a b).2 ≠ (a, b))

/-- R157: both permutations are linear over XOR, fix all-zeros and all-ones, and move single bits. -/
def Obligations.PermutationsAreLinear : Prop :=
  (∀ a b c d : Word,
    ipw (a ^^^ c) (b ^^^ d) = ((ipw a b).1 ^^^ (ipw c d).1, (ipw a b).2 ^^^ (ipw c d).2) ∧
    fpw (a ^^^ c) (b ^^^ d) = ((fpw a b).1 ^^^ (fpw c d).1, (fpw a b).2 ^^^ (fpw c d).2)) ∧
  ipw 0 0 = (0, 0) ∧ ipw 0xffffffff 0xffffffff = (0xffffffff, 0xffffffff) ∧
  (∀ i < 64, ∃ j < 64, ∀ x y : BitVec 64, x = (1#64) <<< i → y = (1#64) <<< j →
    (ipw (x.extractLsb' 32 32) (x.extractLsb' 0 32)).1 ++ (ipw (x.extractLsb' 32 32) (x.extractLsb' 0 32)).2 = y) ∧
  (∀ i < 64, ∃ j < 64, ∀ x y : BitVec 64, x = (1#64) <<< i → y = (1#64) <<< j →
    (fpw (x.extractLsb' 32 32) (x.extractLsb' 0 32)).1 ++ (fpw (x.extractLsb' 32 32) (x.extractLsb' 0 32)).2 = y) ∧
  ipw 0x80000000 0 = (0, 0x02000000) ∧ fpw 0x80000000 0 = (0, 0x00008000)

/-! ### Rounds and the block transform -/

/-- R172: the round function is the DES round function of the half in the unrotated domain, rotated left one bit, and the six
bits of window k are the k-th group of E, with the chunk of the subkey. -/
def Obligations.RoundFunctionIsDesRoundFunction : Prop :=
  (∀ x ka kb : Word, roundF x ka kb = rotl (desF (rotr x 1) (subkey48 ka kb)) 1) ∧
  (∀ x ka kb : Word, ∀ k, 1 ≤ k → k ≤ 8 →
    (expandE (rotr x 1) ^^^ subkey48 ka kb).extractLsb' (48 - 6 * k) 6 =
      if k % 2 = 1 then window (rotr x 4 ^^^ ka) (24 - 4 * (k - 1)) else window (x ^^^ kb) (24 - 4 * (k - 2)))

/-- R179: bits of the subkey words outside the windows change nothing, the zero schedule's example, and a schedule that is its
own reverse undoes itself. -/
def Obligations.SubkeyBitsOutsideWindowsAreIgnored : Prop :=
  (∀ x ka kb ma mb : Word, ma &&& 0x3f3f3f3f = 0 → mb &&& 0x3f3f3f3f = 0 →
    roundF x (ka ^^^ ma) (kb ^^^ mb) = roundF x ka kb) ∧
  transform KeySched.zero Bytes8.zero = #v[0x8c, 0xa6, 0x4d, 0xe9, 0xc1, 0xb1, 0x23, 0xa7] ∧
  (∀ key b : Bytes8, schedule key false = schedule key true →
    transform (schedule key false) (transform (schedule key false) b) = b)

/-- R180: for any 32-word schedule, the transform with its pairs reversed undoes the transform, and the decrypt schedule is the
encrypt schedule reversed. -/
def Obligations.ReversedScheduleInvertsTransform : Prop :=
  (∀ (ks : KeySched) (b : Bytes8), transform (revPairs ks) (transform ks b) = b) ∧
  (∀ key : Bytes8, schedule key true = revPairs (schedule key false))

/-- R132: encrypting and then decrypting with one key returns the block, and the other way round. -/
def Obligations.EncryptDecryptRoundTrip : Prop :=
  ∀ key b : Bytes8,
    transform (schedule key true) (transform (schedule key false) b) = b ∧
    transform (schedule key false) (transform (schedule key true) b) = b

/-- R182: complementing key and block complements the result. -/
def Obligations.ComplementationProperty : Prop :=
  ∀ (key b : Bytes8) (d : Bool), transform (schedule key.compl d) b.compl = (transform (schedule key d) b).compl

/-- R181: the engine is FIPS 46 DES on the key with the bit order of each byte reversed. -/
def Obligations.TransformIsDesWithReversedKeyBytes : Prop :=
  ∀ key b : Bytes8,
    transform (schedule key false) b = desEnc (rev8 key) b ∧
    transform (schedule key true) b = desDec (rev8 key) b
end

