-- ==== Sys2Proof/Laws/Cipher.lean ====
section
/-! SUPPORT. The spec lemmas of the word operators, the byte and schedule accessors, and the steps of the key schedule: one or two
for each function, so that no later proof unfolds it. -/

namespace Sys2Proof.Machine

/-! Rotations and permutations (R10, R11). -/

theorem rotl_eq_rotateLeft (x : Word) {n : Nat} (h : n < 32) : rotl x n = x.rotateLeft n := by
  simp [rotl, BitVec.rotateLeft, BitVec.rotateLeftAux, Nat.mod_eq_of_lt h]

theorem rotr_eq_rotl (x : Word) (n : Nat) : rotr x n = rotl x ((32 - n) % 32) := rfl

theorem getLsbD_permute {n : Nat} (table : List Nat) (m : Nat) (x : BitVec n) (b : Nat) :
    (permute table m x).getLsbD b = if b < m then bitAt x (table.getD (m - 1 - b) 0) else false := by
  simp [permute, BitVec.getLsbD_ofFnLE]

/-! Accessors (R53, R120). -/

theorem byteAt_of_lt (b : Bytes8) {i : Nat} (h : i < 8) : byteAt b i = b[i] := by
  simp [byteAt, Vector.getD, h]

theorem ksWord_of_lt (ks : KeySched) {i : Nat} (h : i < 32) : ksWord ks i = ks[i] := by
  simp [ksWord, Vector.getD, h]

theorem ksWord_of_le (ks : KeySched) {i : Nat} (h : 32 ≤ i) : ksWord ks i = 0 := by
  simp [ksWord, Vector.getD, Nat.not_lt.2 h]

/-- Two byte strings with the same bytes are equal. -/
theorem bytes8_ext {a b : Bytes8} (h : ∀ i < 8, byteAt a i = byteAt b i) : a = b := by
  ext1 i hi
  rw [← byteAt_of_lt a hi, ← byteAt_of_lt b hi, h i hi]

/-- Two schedules with the same words are equal. -/
theorem keySched_ext {a b : KeySched} (h : ∀ i < 32, ksWord a i = ksWord b i) : a = b := by
  ext1 i hi
  rw [← ksWord_of_lt a hi, ← ksWord_of_lt b hi, h i hi]

/-- A byte store is seen at its own index and at no other. -/
theorem byteAt_setIfInBounds (b : Bytes8) (v : Byte) {i j : Nat} (hj : j < 8) :
    byteAt (b.setIfInBounds i v) j = if j = i then v else byteAt b j := by
  rw [byteAt_of_lt _ hj, byteAt_of_lt _ hj, Vector.getElem_setIfInBounds hj]
  by_cases h : i = j
  · simp [h]
  · simp [h, Ne.symm h]

@[simp] theorem ksWord_zero (i : Nat) : ksWord KeySched.zero i = 0 := by
  by_cases h : i < 32
  · simp [ksWord_of_lt _ h, KeySched.zero]
  · exact ksWord_of_le _ (Nat.not_lt.1 h)

/-! The key schedule (R121-R129). -/

/-- A key bit is read from the least significant end of its byte (R102). -/
theorem keyBit_eq_getLsbD (key : Bytes8) (l : Nat) : keyBit key l = (byteAt key (l / 8)).getLsbD (l % 8) := by
  have h : l &&& 7 = l % 8 := Nat.and_two_pow_sub_one_eq_mod l 3
  have hs : l >>> 3 = l / 8 := Nat.shiftRight_eq_div_pow l 3
  unfold keyBit BYTEBIT
  rw [h, hs]
  generalize byteAt key (l / 8) = x
  have hm : l % 8 < 8 := Nat.mod_lt _ (by decide)
  generalize l % 8 = m at hm
  revert x
  interval_cases m <;> decide

theorem ksWord_raw (key : Bytes8) (d : Bool) {w : Nat} (h : w < 32) :
    ksWord (raw key d) w =
      if w % 2 = 0 then (rawPair key (roundOfSlot d (w / 2))).1 else (rawPair key (roundOfSlot d (w / 2))).2 := by
  simp [ksWord_of_lt _ h, raw]

theorem ksWord_cookey (r : KeySched) {w : Nat} (h : w < 32) :
    ksWord (cookey r) w =
      if w % 2 = 0 then cookEven (ksWord r (2 * (w / 2))) (ksWord r (2 * (w / 2) + 1))
      else cookOdd (ksWord r (2 * (w / 2))) (ksWord r (2 * (w / 2) + 1)) := by
  simp [ksWord_of_lt _ h, cookey]

theorem schedule_eq (key : Bytes8) (d : Bool) : schedule key d = cookey (raw key d) := by
  unfold schedule; rfl

theorem ksWord_revPairs (ks : KeySched) {w : Nat} (h : w < 32) :
    ksWord (revPairs ks) w = ksWord ks (2 * (15 - w / 2) + w % 2) := by
  simp [ksWord_of_lt _ h, revPairs]

/-! The rounds (R173, R175, R176). -/

theorem rounds_eq (ks : KeySched) (lr : Word × Word) :
    rounds ks lr =
      doubleRound ks 7 (doubleRound ks 6 (doubleRound ks 5 (doubleRound ks 4
        (doubleRound ks 3 (doubleRound ks 2 (doubleRound ks 1 (doubleRound ks 0 lr))))))) := rfl

theorem transform_eq (ks : KeySched) (b : Bytes8) :
    transform ks b =
      unpack (fpw (rounds ks (ipw (pack b).1 (pack b).2)).1 (rounds ks (ipw (pack b).1 (pack b).2)).2).1
        (fpw (rounds ks (ipw (pack b).1 (pack b).2)).1 (rounds ks (ipw (pack b).1 (pack b).2)).2).2 := by
  unfold transform; rfl

end Sys2Proof.Machine
end

