-- ==== Sys2Proof/Laws/State.lean ====
section
/-! SUPPORT. One lemma per field per update of the state, so that no proof unfolds a record update. -/

namespace Sys2Proof.Machine

@[simp] theorem clearStatus_key (s : State) : (clearStatus s).key = s.key := rfl
@[simp] theorem clearStatus_din (s : State) : (clearStatus s).din = s.din := rfl
@[simp] theorem clearStatus_dout (s : State) : (clearStatus s).dout = s.dout := rfl
@[simp] theorem clearStatus_ks (s : State) : (clearStatus s).ks = s.ks := rfl
@[simp] theorem clearStatus_ksv (s : State) : (clearStatus s).ksv = s.ksv := rfl
@[simp] theorem clearStatus_ksdir (s : State) : (clearStatus s).ksdir = s.ksdir := rfl
@[simp] theorem clearStatus_done (s : State) : (clearStatus s).done = false := rfl
@[simp] theorem clearStatus_err (s : State) : (clearStatus s).err = 0 := rfl
@[simp] theorem clearStatus_pend (s : State) : (clearStatus s).pend = s.pend := rfl
@[simp] theorem clearStatus_work (s : State) : (clearStatus s).work = s.work := rfl
@[simp] theorem clearStatus_rdata (s : State) : (clearStatus s).rdata = s.rdata := rfl
@[simp] theorem clearStatus_port (s : State) : (clearStatus s).port = s.port := rfl
@[simp] theorem clearStatus_freeCount (s : State) : (clearStatus s).freeCount = s.freeCount := rfl

@[simp] theorem setDone_key (s : State) : (setDone s).key = s.key := rfl
@[simp] theorem setDone_din (s : State) : (setDone s).din = s.din := rfl
@[simp] theorem setDone_dout (s : State) : (setDone s).dout = s.dout := rfl
@[simp] theorem setDone_ks (s : State) : (setDone s).ks = s.ks := rfl
@[simp] theorem setDone_ksv (s : State) : (setDone s).ksv = s.ksv := rfl
@[simp] theorem setDone_ksdir (s : State) : (setDone s).ksdir = s.ksdir := rfl
@[simp] theorem setDone_done (s : State) : (setDone s).done = true := rfl
@[simp] theorem setDone_err (s : State) : (setDone s).err = s.err := rfl
@[simp] theorem setDone_pend (s : State) : (setDone s).pend = s.pend := rfl
@[simp] theorem setDone_work (s : State) : (setDone s).work = s.work := rfl
@[simp] theorem setDone_rdata (s : State) : (setDone s).rdata = s.rdata := rfl
@[simp] theorem setDone_port (s : State) : (setDone s).port = s.port := rfl
@[simp] theorem setDone_freeCount (s : State) : (setDone s).freeCount = s.freeCount := rfl

@[simp] theorem raise_key (e : EngineError) (s : State) : (raise e s).key = s.key := rfl
@[simp] theorem raise_din (e : EngineError) (s : State) : (raise e s).din = s.din := rfl
@[simp] theorem raise_dout (e : EngineError) (s : State) : (raise e s).dout = s.dout := rfl
@[simp] theorem raise_ks (e : EngineError) (s : State) : (raise e s).ks = s.ks := rfl
@[simp] theorem raise_ksv (e : EngineError) (s : State) : (raise e s).ksv = s.ksv := rfl
@[simp] theorem raise_ksdir (e : EngineError) (s : State) : (raise e s).ksdir = s.ksdir := rfl
@[simp] theorem raise_done (e : EngineError) (s : State) : (raise e s).done = s.done := rfl
@[simp] theorem raise_err (e : EngineError) (s : State) : (raise e s).err = if s.err = 0 then errorCode e else s.err := rfl
@[simp] theorem raise_pend (e : EngineError) (s : State) : (raise e s).pend = s.pend := rfl
@[simp] theorem raise_work (e : EngineError) (s : State) : (raise e s).work = s.work := rfl
@[simp] theorem raise_rdata (e : EngineError) (s : State) : (raise e s).rdata = s.rdata := rfl
@[simp] theorem raise_port (e : EngineError) (s : State) : (raise e s).port = s.port := rfl
@[simp] theorem raise_freeCount (e : EngineError) (s : State) : (raise e s).freeCount = s.freeCount := rfl

@[simp] theorem rejectWith_key (e : EngineError) (s : State) : (rejectWith e s).key = s.key := rfl
@[simp] theorem rejectWith_din (e : EngineError) (s : State) : (rejectWith e s).din = s.din := rfl
@[simp] theorem rejectWith_dout (e : EngineError) (s : State) : (rejectWith e s).dout = s.dout := rfl
@[simp] theorem rejectWith_ks (e : EngineError) (s : State) : (rejectWith e s).ks = s.ks := rfl
@[simp] theorem rejectWith_ksv (e : EngineError) (s : State) : (rejectWith e s).ksv = s.ksv := rfl
@[simp] theorem rejectWith_ksdir (e : EngineError) (s : State) : (rejectWith e s).ksdir = s.ksdir := rfl
@[simp] theorem rejectWith_done (e : EngineError) (s : State) : (rejectWith e s).done = true := rfl
@[simp] theorem rejectWith_err (e : EngineError) (s : State) : (rejectWith e s).err = if s.err = 0 then errorCode e else s.err := rfl
@[simp] theorem rejectWith_pend (e : EngineError) (s : State) : (rejectWith e s).pend = s.pend := rfl
@[simp] theorem rejectWith_work (e : EngineError) (s : State) : (rejectWith e s).work = s.work := rfl
@[simp] theorem rejectWith_rdata (e : EngineError) (s : State) : (rejectWith e s).rdata = s.rdata := rfl
@[simp] theorem rejectWith_port (e : EngineError) (s : State) : (rejectWith e s).port = s.port := rfl
@[simp] theorem rejectWith_freeCount (e : EngineError) (s : State) : (rejectWith e s).freeCount = s.freeCount := rfl

@[simp] theorem goBusy_key (op : BusyOp) (d : Bool) (s : State) : (goBusy op d s).key = s.key := rfl
@[simp] theorem goBusy_din (op : BusyOp) (d : Bool) (s : State) : (goBusy op d s).din = s.din := rfl
@[simp] theorem goBusy_dout (op : BusyOp) (d : Bool) (s : State) : (goBusy op d s).dout = s.dout := rfl
@[simp] theorem goBusy_ks (op : BusyOp) (d : Bool) (s : State) : (goBusy op d s).ks = s.ks := rfl
@[simp] theorem goBusy_ksv (op : BusyOp) (d : Bool) (s : State) : (goBusy op d s).ksv = s.ksv := rfl
@[simp] theorem goBusy_ksdir (op : BusyOp) (d : Bool) (s : State) : (goBusy op d s).ksdir = s.ksdir := rfl
@[simp] theorem goBusy_done (op : BusyOp) (d : Bool) (s : State) : (goBusy op d s).done = s.done := rfl
@[simp] theorem goBusy_err (op : BusyOp) (d : Bool) (s : State) : (goBusy op d s).err = s.err := rfl
@[simp] theorem goBusy_pend (op : BusyOp) (d : Bool) (s : State) : (goBusy op d s).pend = some (snapshot op d s) := rfl
@[simp] theorem goBusy_work (op : BusyOp) (d : Bool) (s : State) : (goBusy op d s).work = s.work := rfl
@[simp] theorem goBusy_rdata (op : BusyOp) (d : Bool) (s : State) : (goBusy op d s).rdata = s.rdata := rfl
@[simp] theorem goBusy_port (op : BusyOp) (d : Bool) (s : State) : (goBusy op d s).port = s.port := rfl
@[simp] theorem goBusy_freeCount (op : BusyOp) (d : Bool) (s : State) : (goBusy op d s).freeCount = s.freeCount := rfl

@[simp] theorem eraseSchedule_key (s : State) : (eraseSchedule s).key = s.key := rfl
@[simp] theorem eraseSchedule_din (s : State) : (eraseSchedule s).din = s.din := rfl
@[simp] theorem eraseSchedule_dout (s : State) : (eraseSchedule s).dout = s.dout := rfl
@[simp] theorem eraseSchedule_ks (s : State) : (eraseSchedule s).ks = KeySched.zero := rfl
@[simp] theorem eraseSchedule_ksv (s : State) : (eraseSchedule s).ksv = false := rfl
@[simp] theorem eraseSchedule_ksdir (s : State) : (eraseSchedule s).ksdir = false := rfl
@[simp] theorem eraseSchedule_done (s : State) : (eraseSchedule s).done = s.done := rfl
@[simp] theorem eraseSchedule_err (s : State) : (eraseSchedule s).err = s.err := rfl
@[simp] theorem eraseSchedule_pend (s : State) : (eraseSchedule s).pend = s.pend := rfl
@[simp] theorem eraseSchedule_work (s : State) : (eraseSchedule s).work = s.work := rfl
@[simp] theorem eraseSchedule_rdata (s : State) : (eraseSchedule s).rdata = s.rdata := rfl
@[simp] theorem eraseSchedule_port (s : State) : (eraseSchedule s).port = s.port := rfl
@[simp] theorem eraseSchedule_freeCount (s : State) : (eraseSchedule s).freeCount = s.freeCount := rfl

@[simp] theorem countDown_key (p : Pending) (s : State) : (countDown p s).key = s.key := rfl
@[simp] theorem countDown_din (p : Pending) (s : State) : (countDown p s).din = s.din := rfl
@[simp] theorem countDown_dout (p : Pending) (s : State) : (countDown p s).dout = s.dout := rfl
@[simp] theorem countDown_ks (p : Pending) (s : State) : (countDown p s).ks = s.ks := rfl
@[simp] theorem countDown_ksv (p : Pending) (s : State) : (countDown p s).ksv = s.ksv := rfl
@[simp] theorem countDown_ksdir (p : Pending) (s : State) : (countDown p s).ksdir = s.ksdir := rfl
@[simp] theorem countDown_done (p : Pending) (s : State) : (countDown p s).done = s.done := rfl
@[simp] theorem countDown_err (p : Pending) (s : State) : (countDown p s).err = s.err := rfl
@[simp] theorem countDown_pend (p : Pending) (s : State) : (countDown p s).pend = some { p with remaining := p.remaining - 1 } := rfl
@[simp] theorem countDown_work (p : Pending) (s : State) : (countDown p s).work = freeWork s.freeCount := rfl
@[simp] theorem countDown_rdata (p : Pending) (s : State) : (countDown p s).rdata = s.rdata := rfl
@[simp] theorem countDown_port (p : Pending) (s : State) : (countDown p s).port = s.port := rfl
@[simp] theorem countDown_freeCount (p : Pending) (s : State) : (countDown p s).freeCount = s.freeCount + 1 := rfl

@[simp] theorem resetEdge_key (s : State) : (resetEdge s).key = Config.defaultKey := rfl
@[simp] theorem resetEdge_din (s : State) : (resetEdge s).din = Bytes8.zero := rfl
@[simp] theorem resetEdge_dout (s : State) : (resetEdge s).dout = Bytes8.zero := rfl
@[simp] theorem resetEdge_ks (s : State) : (resetEdge s).ks = KeySched.zero := rfl
@[simp] theorem resetEdge_ksv (s : State) : (resetEdge s).ksv = false := rfl
@[simp] theorem resetEdge_ksdir (s : State) : (resetEdge s).ksdir = false := rfl
@[simp] theorem resetEdge_done (s : State) : (resetEdge s).done = false := rfl
@[simp] theorem resetEdge_err (s : State) : (resetEdge s).err = 0 := rfl
@[simp] theorem resetEdge_pend (s : State) : (resetEdge s).pend = none := rfl
@[simp] theorem resetEdge_work (s : State) : (resetEdge s).work = Work.zero := rfl
@[simp] theorem resetEdge_rdata (s : State) : (resetEdge s).rdata = none := rfl
@[simp] theorem resetEdge_port (s : State) : (resetEdge s).port = s.port := rfl
@[simp] theorem resetEdge_freeCount (s : State) : (resetEdge s).freeCount = s.freeCount := rfl

@[simp] theorem State.abs_key (s : State) : (s.abs).key = s.key := rfl
@[simp] theorem State.abs_din (s : State) : (s.abs).din = s.din := rfl
@[simp] theorem State.abs_dout (s : State) : (s.abs).dout = s.dout := rfl
@[simp] theorem State.abs_ks (s : State) : (s.abs).ks = s.ks := rfl
@[simp] theorem State.abs_ksv (s : State) : (s.abs).ksv = s.ksv := rfl
@[simp] theorem State.abs_ksdir (s : State) : (s.abs).ksdir = s.ksdir := rfl
@[simp] theorem State.abs_done (s : State) : (s.abs).done = s.done := rfl
@[simp] theorem State.abs_err (s : State) : (s.abs).err = s.err := rfl
@[simp] theorem State.abs_pend (s : State) : (s.abs).pend = s.pend.map Pending.abs := rfl
@[simp] theorem State.abs_work (s : State) : (s.abs).work = Work.zero := rfl
@[simp] theorem State.abs_rdata (s : State) : (s.abs).rdata = none := rfl
@[simp] theorem State.abs_port (s : State) : (s.abs).port = [] := rfl
@[simp] theorem State.abs_freeCount (s : State) : (s.abs).freeCount = 0 := rfl

@[simp] theorem complete_done (p : Pending) (s : State) : (complete p s).done = true := rfl
@[simp] theorem complete_pend (p : Pending) (s : State) : (complete p s).pend = none := rfl
@[simp] theorem complete_work (p : Pending) (s : State) : (complete p s).work = Work.zero := rfl
@[simp] theorem complete_key (p : Pending) (s : State) : (complete p s).key = s.key := by
  cases p with | mk op d k b r => cases op <;> rfl
@[simp] theorem complete_din (p : Pending) (s : State) : (complete p s).din = s.din := by
  cases p with | mk op d k b r => cases op <;> rfl
@[simp] theorem complete_err (p : Pending) (s : State) : (complete p s).err = s.err := by
  cases p with | mk op d k b r => cases op <;> rfl
@[simp] theorem complete_rdata (p : Pending) (s : State) : (complete p s).rdata = s.rdata := by
  cases p with | mk op d k b r => cases op <;> rfl
@[simp] theorem complete_port (p : Pending) (s : State) : (complete p s).port = s.port := by
  cases p with | mk op d k b r => cases op <;> rfl
@[simp] theorem complete_freeCount (p : Pending) (s : State) : (complete p s).freeCount = s.freeCount := by
  cases p with | mk op d k b r => cases op <;> rfl
@[simp] theorem complete_dout (p : Pending) (s : State) : (complete p s).dout = (commitResults p s).dout := rfl
@[simp] theorem complete_ks (p : Pending) (s : State) : (complete p s).ks = (commitResults p s).ks := rfl
@[simp] theorem complete_ksv (p : Pending) (s : State) : (complete p s).ksv = (commitResults p s).ksv := rfl
@[simp] theorem complete_ksdir (p : Pending) (s : State) : (complete p s).ksdir = (commitResults p s).ksdir := rfl

@[simp] theorem storeReg_dout (off : Nat) (v : Byte) (s : State) : (storeReg off v s).dout = s.dout := by
  unfold storeReg; split_ifs <;> rfl
@[simp] theorem storeReg_ks (off : Nat) (v : Byte) (s : State) : (storeReg off v s).ks = s.ks := by
  unfold storeReg; split_ifs <;> rfl
@[simp] theorem storeReg_ksv (off : Nat) (v : Byte) (s : State) : (storeReg off v s).ksv = s.ksv := by
  unfold storeReg; split_ifs <;> rfl
@[simp] theorem storeReg_ksdir (off : Nat) (v : Byte) (s : State) : (storeReg off v s).ksdir = s.ksdir := by
  unfold storeReg; split_ifs <;> rfl
@[simp] theorem storeReg_done (off : Nat) (v : Byte) (s : State) : (storeReg off v s).done = s.done := by
  unfold storeReg; split_ifs <;> rfl
@[simp] theorem storeReg_err (off : Nat) (v : Byte) (s : State) : (storeReg off v s).err = s.err := by
  unfold storeReg; split_ifs <;> rfl
@[simp] theorem storeReg_pend (off : Nat) (v : Byte) (s : State) : (storeReg off v s).pend = s.pend := by
  unfold storeReg; split_ifs <;> rfl
@[simp] theorem storeReg_work (off : Nat) (v : Byte) (s : State) : (storeReg off v s).work = s.work := by
  unfold storeReg; split_ifs <;> rfl
@[simp] theorem storeReg_rdata (off : Nat) (v : Byte) (s : State) : (storeReg off v s).rdata = s.rdata := by
  unfold storeReg; split_ifs <;> rfl
@[simp] theorem storeReg_port (off : Nat) (v : Byte) (s : State) : (storeReg off v s).port = s.port := by
  unfold storeReg; split_ifs <;> rfl
@[simp] theorem storeReg_freeCount (off : Nat) (v : Byte) (s : State) : (storeReg off v s).freeCount = s.freeCount := by
  unfold storeReg; split_ifs <;> rfl

@[simp] theorem busyWrite_key (off : Nat) (s : State) : (busyWrite off s).key = s.key := by
  unfold busyWrite; split_ifs <;> rfl
@[simp] theorem busyWrite_din (off : Nat) (s : State) : (busyWrite off s).din = s.din := by
  unfold busyWrite; split_ifs <;> rfl
@[simp] theorem busyWrite_dout (off : Nat) (s : State) : (busyWrite off s).dout = s.dout := by
  unfold busyWrite; split_ifs <;> rfl
@[simp] theorem busyWrite_ks (off : Nat) (s : State) : (busyWrite off s).ks = s.ks := by
  unfold busyWrite; split_ifs <;> rfl
@[simp] theorem busyWrite_ksv (off : Nat) (s : State) : (busyWrite off s).ksv = s.ksv := by
  unfold busyWrite; split_ifs <;> rfl
@[simp] theorem busyWrite_ksdir (off : Nat) (s : State) : (busyWrite off s).ksdir = s.ksdir := by
  unfold busyWrite; split_ifs <;> rfl
@[simp] theorem busyWrite_done (off : Nat) (s : State) : (busyWrite off s).done = s.done := by
  unfold busyWrite; split_ifs <;> rfl
@[simp] theorem busyWrite_pend (off : Nat) (s : State) : (busyWrite off s).pend = s.pend := by
  unfold busyWrite; split_ifs <;> rfl
@[simp] theorem busyWrite_work (off : Nat) (s : State) : (busyWrite off s).work = s.work := by
  unfold busyWrite; split_ifs <;> rfl
@[simp] theorem busyWrite_rdata (off : Nat) (s : State) : (busyWrite off s).rdata = s.rdata := by
  unfold busyWrite; split_ifs <;> rfl
@[simp] theorem busyWrite_port (off : Nat) (s : State) : (busyWrite off s).port = s.port := by
  unfold busyWrite; split_ifs <;> rfl
@[simp] theorem busyWrite_freeCount (off : Nat) (s : State) : (busyWrite off s).freeCount = s.freeCount := by
  unfold busyWrite; split_ifs <;> rfl

@[simp] theorem snapshot_op (op : BusyOp) (d : Bool) (s : State) : (snapshot op d s).op = op := rfl
@[simp] theorem snapshot_d (op : BusyOp) (d : Bool) (s : State) : (snapshot op d s).d = d := rfl
@[simp] theorem snapshot_keysnap (op : BusyOp) (d : Bool) (s : State) : (snapshot op d s).keysnap = s.key := rfl
@[simp] theorem snapshot_dinsnap (op : BusyOp) (d : Bool) (s : State) : (snapshot op d s).dinsnap = s.din := rfl
@[simp] theorem snapshot_remaining (op : BusyOp) (d : Bool) (s : State) :
    (snapshot op d s).remaining = Config.cmdCycles op := rfl

@[simp] theorem Pending.abs_op (p : Pending) : p.abs.op = p.op := rfl
@[simp] theorem Pending.abs_d (p : Pending) : p.abs.d = p.d := rfl
@[simp] theorem Pending.abs_keysnap (p : Pending) : p.abs.keysnap = p.keysnap := rfl
@[simp] theorem Pending.abs_dinsnap (p : Pending) : p.abs.dinsnap = p.dinsnap := rfl
@[simp] theorem Pending.abs_remaining (p : Pending) : p.abs.remaining = 0 := rfl

@[simp] theorem Pending.abs_abs (p : Pending) : p.abs.abs = p.abs := rfl
@[simp] theorem State.abs_abs (s : State) : s.abs.abs = s.abs := by
  cases h : s.pend <;> simp [State.abs, h]

@[simp] theorem withFetchWord_port (s : State) (nbits w : Nat) :
    (s.withFetchWord nbits w).port = fetchCycle nbits w :: s.port := rfl

end Sys2Proof.Machine
end

