-- ==== Sys2Proof/Laws/Ops.lean ====
section
/-! SUPPORT. For each shared operation, once, everything it can do: what a write to CTRL, a write, an access, an edge and a
step answer. Later proofs cite these and do not unfold the operations. -/

namespace Sys2Proof.Machine

/-! The latency parameter. -/

theorem cmdCycles_pos (op : BusyOp) : 1 ≤ Config.cmdCycles op := Nat.succ_pos _

/-! Busy and not busy. -/

theorem busy_iff (s : State) : busy s = true ↔ ∃ p, s.pend = some p := Option.isSome_iff_exists

theorem busy_false_iff (s : State) : busy s = false ↔ s.pend = none := by
  unfold busy; cases s.pend <;> simp

theorem issue_of_idle {s : State} (k : State → State) (h : s.pend = none) : issue k s = k (clearStatus s) := by
  simp [issue, busy, h]

theorem issue_of_busy {s : State} (k : State → State) (h : s.pend.isSome = true) : issue k s = raise .writeWhileBusy s := by
  simp [issue, busy, h, busyWrite, busyWriteIsError]

/-- An accepted write reads neither DONE nor ERRCODE of before. -/
theorem clearStatus_clearStatus (s : State) : clearStatus (clearStatus s) = clearStatus s := rfl

/-- Raising twice keeps the first error (R231). -/
theorem raise_of_err_ne_zero {s : State} (e : EngineError) (h : s.err ≠ 0) : raise e s = s := by
  unfold raise; rw [if_neg h]

theorem raise_of_err_zero {s : State} (e : EngineError) (h : s.err = 0) : raise e s = { s with err := errorCode e } := by
  unfold raise; rw [if_pos h]

theorem errorCode_ne_zero (e : EngineError) : errorCode e ≠ 0 := by cases e <;> decide

theorem errorCode_le_three (e : EngineError) : (errorCode e).toNat ≤ 3 := by cases e <;> decide

/-! The commands. -/

/-- What an accepted command does, after DONE and ERRCODE are cleared (R211). -/
def accepted : Instr → State → State
  | .nop => setDone
  | .encrypt => goBusy .crypt false
  | .decrypt => goBusy .crypt true
  | .ksloadE => goBusy .ksload false
  | .ksloadD => goBusy .ksload true
  | .transform => issueTransform
  | .kserase => goBusy .kserase false

/-- Every command's meaning is an issue (R211): it always answers a next state. -/
theorem exec_eq_issue (i : Instr) (s : State) : exec i s = .next (issue (accepted i) s) := by
  cases i <;> rfl

theorem exec_of_idle {s : State} (i : Instr) (h : s.pend = none) : exec i s = .next (accepted i (clearStatus s)) := by
  rw [exec_eq_issue, issue_of_idle _ h]

theorem exec_of_busy {s : State} (i : Instr) (h : s.pend.isSome = true) : exec i s = .next (raise .writeWhileBusy s) := by
  rw [exec_eq_issue, issue_of_busy _ h]

/-- The four ways an accepted command ends its issue. -/
theorem accepted_cases (i : Instr) (s : State) :
    accepted i s = setDone s ∨ accepted i s = rejectWith .noSchedule s ∨
    ∃ op d, accepted i s = goBusy op d s ∧ (op = .transform → s.ksv = true) ∧
      (op = .transform ∨ op = .kserase → d = false) := by
  cases i with
  | nop => exact .inl rfl
  | transform =>
    cases h : s.ksv with
    | true => exact .inr (.inr ⟨.transform, false, by simp [accepted, issueTransform, h], fun _ => rfl, fun _ => rfl⟩)
    | false => exact .inr (.inl (by simp [accepted, issueTransform, h]))
  | encrypt | decrypt | ksloadE | ksloadD | kserase => exact .inr (.inr ⟨_, _, rfl, by simp, by simp⟩)

/-! Writes. -/

/-- What an accepted byte at CTRL does: its command, or ILLEGAL_CMD. -/
def acceptedByte (v : Byte) (s : State) : State :=
  match decodeByte v with
  | .ok i => accepted i s
  | .error _ => rejectWith .illegalCmd s

/-- The three ways an accepted byte ends its issue. -/
theorem acceptedByte_cases (v : Byte) (s : State) :
    acceptedByte v s = setDone s ∨ (∃ e, acceptedByte v s = rejectWith e s) ∨
    ∃ op d, acceptedByte v s = goBusy op d s ∧ (op = .transform → s.ksv = true) ∧
      (op = .transform ∨ op = .kserase → d = false) := by
  unfold acceptedByte
  cases decodeByte v with
  | error e => exact .inr (.inl ⟨_, rfl⟩)
  | ok i =>
    rcases accepted_cases i s with h | h | h
    · exact .inl h
    · exact .inr (.inl ⟨_, h⟩)
    · exact .inr (.inr h)

theorem writeCtrl_eq_issue (v : Byte) (s : State) : writeCtrl v s = .next (issue (acceptedByte v) s) := by
  unfold writeCtrl
  cases h : decodeByte v with
  | ok i => simp only [exec_eq_issue, issue, acceptedByte, h]
  | error e => simp only [illegalCommand, issue, acceptedByte, h]

theorem writeReg_of_busy {s : State} (off : Nat) (v : Byte) (h : s.pend.isSome = true) :
    writeReg off v s = .next (busyWrite off s) := by
  by_cases h0 : off = 0
  · simp [writeReg, h0, writeCtrl_eq_issue, issue_of_busy _ h, busyWrite, busyWriteIsError]
  · simp [writeReg, h0, busy, h]

theorem writeReg_of_idle {s : State} (off : Nat) (v : Byte) (h : s.pend = none) :
    writeReg off v s = .next (if off = 0 then acceptedByte v (clearStatus s) else storeReg off v s) := by
  by_cases h0 : off = 0
  · simp [writeReg, h0, writeCtrl_eq_issue, issue_of_idle _ h]
  · simp [writeReg, h0, busy, h]

/-- What a write does, as a function: a write never stops the machine. -/
def written (off : Nat) (v : Byte) (s : State) : State :=
  if s.pend.isSome then busyWrite off s
  else if off = 0 then acceptedByte v (clearStatus s) else storeReg off v s

theorem writeReg_eq_written (off : Nat) (v : Byte) (s : State) : writeReg off v s = .next (written off v s) := by
  unfold written
  cases h : s.pend with
  | none => simpa using writeReg_of_idle off v h
  | some p => simpa using writeReg_of_busy off v (s := s) (by simp [h])

/-- The registers after the access of a legal cycle. -/
def accessed : Option Access → State → State
  | some (.write off data), s => written off (data.headD 0) s
  | some (.read _ _), s => s
  | none, s => s

theorem accessRefusal_write {off : Nat} {data : List Byte} (h : accessRefusal (.write off data) = none) :
    ∃ v, data = [v] ∧ off ≤ 31 := by
  simp only [accessRefusal] at h
  split_ifs at h with h1 h2
  obtain ⟨v, rfl⟩ := List.length_eq_one_iff.1 (not_not.1 h1)
  exact ⟨v, rfl, by omega⟩

theorem accessRefusal_read {off bytes : Nat} (h : accessRefusal (.read off bytes) = none) :
    bytes = 1 ∧ off ≤ 31 := by
  simp only [accessRefusal] at h
  split_ifs at h with h1 h2
  exact ⟨not_not.1 h1, by omega⟩

theorem performAccess_eq_accessed {a : Option Access} (h : a.bind accessRefusal = none) (s : State) :
    performAccess a s = .next (accessed a s) := by
  cases a with
  | none => rfl
  | some a =>
    cases a with
    | read off bytes => rfl
    | write off data =>
      obtain ⟨v, rfl, -⟩ := accessRefusal_write h
      exact writeReg_eq_written off v s

/-! Cycles and steps. -/

/-- The state after a legal cycle. -/
def cycled (c : PortCycle) (s : State) : State :=
  if c.rst then { resetEdge s with rdata := readData c s }
  else engineEdge s.pend (accessed c.access { s with rdata := readData c s })

/-- A command in flight is not touched by a write, nor by any access. -/
theorem written_pend_of_busy {s : State} {p : Pending} (off : Nat) (v : Byte) (h : s.pend = some p) :
    (written off v s).pend = some p := by
  simp [written, h]

theorem accessed_pend_of_busy {s : State} {p : Pending} (a : Option Access) (h : s.pend = some p) :
    (accessed a s).pend = some p := by
  cases a with
  | none => exact h
  | some a =>
    cases a with
    | read off bytes => exact h
    | write off data => exact written_pend_of_busy off _ h

theorem clockCycle_of_legal {c : PortCycle} (h : cycleLegal c = true) (s : State) :
    clockCycle c s = .next (cycled c s) := by
  have h' : c.access.bind accessRefusal = none := by simpa [cycleLegal] using h
  unfold clockCycle cycled
  rw [h']
  by_cases hr : c.rst = true
  · simp [legalCycle, hr]
  · simp [legalCycle, hr, performAccess_eq_accessed h', afterAccess]

theorem clockCycle_of_refusal {c : PortCycle} {r : Refusal} (h : c.access.bind accessRefusal = some r) (s : State) :
    clockCycle c s = .refused r := by
  simp [clockCycle, h]

/-- A step is the port's next cycle. -/
theorem step_eq (s : State) : step s = clockCycle (takeCycle s).1 (takeCycle s).2 := rfl

@[simp] theorem takeCycle_nil {s : State} (h : s.port = []) : takeCycle s = (idleCycle, s) := by
  simp [takeCycle, h]

@[simp] theorem takeCycle_cons {s : State} {c : PortCycle} {rest : List PortCycle} (h : s.port = c :: rest) :
    takeCycle s = (c, { s with port := rest }) := by
  simp [takeCycle, h]

/-- Everything a step can answer: the next state of a legal cycle, or the refusal of an access the port does not have. -/
theorem step_cases (s : State) :
    (cycleLegal (takeCycle s).1 = true ∧ step s = .next (cycled (takeCycle s).1 (takeCycle s).2)) ∨
    ∃ r, (takeCycle s).1.access.bind accessRefusal = some r ∧ step s = .refused r := by
  cases h : (takeCycle s).1.access.bind accessRefusal with
  | none =>
    have hl : cycleLegal (takeCycle s).1 = true := by simp [cycleLegal, h]
    exact .inl ⟨hl, by rw [step_eq, clockCycle_of_legal hl]⟩
  | some r => exact .inr ⟨r, rfl, by rw [step_eq, clockCycle_of_refusal h]⟩

/-- A step that answers a next state is a legal cycle. -/
theorem step_next {s t : State} (h : step s = .next t) :
    cycleLegal (takeCycle s).1 = true ∧ t = cycled (takeCycle s).1 (takeCycle s).2 := by
  rcases step_cases s with ⟨hl, hs⟩ | ⟨r, -, hs⟩
  · rw [hs] at h; exact ⟨hl, (Host.Outcome.next.inj h).symm⟩
  · rw [hs] at h; cases h

/-- Taking the port's next cycle changes only the port. -/
theorem takeCycle_snd (s : State) : (takeCycle s).2 = { s with port := (takeCycle s).2.port } := by
  unfold takeCycle; cases s.port <;> rfl

@[simp] theorem takeCycle_pend (s : State) : (takeCycle s).2.pend = s.pend := by rw [takeCycle_snd]
@[simp] theorem takeCycle_key (s : State) : (takeCycle s).2.key = s.key := by rw [takeCycle_snd]
@[simp] theorem takeCycle_din (s : State) : (takeCycle s).2.din = s.din := by rw [takeCycle_snd]
@[simp] theorem takeCycle_dout (s : State) : (takeCycle s).2.dout = s.dout := by rw [takeCycle_snd]
@[simp] theorem takeCycle_ks (s : State) : (takeCycle s).2.ks = s.ks := by rw [takeCycle_snd]
@[simp] theorem takeCycle_ksv (s : State) : (takeCycle s).2.ksv = s.ksv := by rw [takeCycle_snd]
@[simp] theorem takeCycle_ksdir (s : State) : (takeCycle s).2.ksdir = s.ksdir := by rw [takeCycle_snd]
@[simp] theorem takeCycle_done (s : State) : (takeCycle s).2.done = s.done := by rw [takeCycle_snd]
@[simp] theorem takeCycle_err (s : State) : (takeCycle s).2.err = s.err := by rw [takeCycle_snd]
@[simp] theorem takeCycle_work (s : State) : (takeCycle s).2.work = s.work := by rw [takeCycle_snd]
@[simp] theorem takeCycle_freeCount (s : State) : (takeCycle s).2.freeCount = s.freeCount := by rw [takeCycle_snd]

/-! Runs. -/

theorem run_zero (s : State) : Host.Core.run Sys2Proof.core 0 s = .next s := rfl

/-- A run's first step, where it answers a next state. -/
theorem run_succ_of_next {s t : State} (n : Nat) (h : step s = .next t) :
    Host.Core.run Sys2Proof.core (n + 1) s = Host.Core.run Sys2Proof.core n t := by
  have hc : Host.Core.step Sys2Proof.core s = .next t := h
  simp only [Host.Core.run, hc]

/-- A run of n + m steps is a run of m steps from where n steps lead. -/
theorem run_add {n : Nat} (m : Nat) {s t : State} (h : Host.Core.run Sys2Proof.core n s = .next t) :
    Host.Core.run Sys2Proof.core (n + m) s = Host.Core.run Sys2Proof.core m t := by
  induction n generalizing s with
  | zero =>
    rw [run_zero] at h
    cases h
    rw [Nat.zero_add]
  | succ n ih =>
    rcases step_cases s with ⟨-, hs⟩ | ⟨r, -, hs⟩
    · rw [run_succ_of_next n hs] at h
      rw [Nat.add_right_comm, run_succ_of_next (n + m) hs, ih h]
    · have hc : Host.Core.step Sys2Proof.core s = .refused r := hs
      simp [Host.Core.run, hc] at h

/-- A step with an idle port: the clock edge of the command in flight alone. -/
theorem step_of_idle_port {s : State} (h : s.port = []) : step s = .next (engineEdge s.pend { s with rdata := none }) := by
  simp [step, takeCycle, h, clockCycle, legalCycle, idleCycle, performAccess, readData, afterAccess]

/-! The engine's edge. -/

@[simp] theorem engineEdge_none (s : State) : engineEdge none s = s := rfl

theorem engineEdge_of_one_lt {p : Pending} (h : 1 < p.remaining) (s : State) :
    engineEdge (some p) s = countDown p s := by
  simp [engineEdge, h]

theorem engineEdge_of_le_one {p : Pending} (h : p.remaining ≤ 1) (s : State) :
    engineEdge (some p) s = complete p s := by
  simp [engineEdge, Nat.not_lt.2 h]

@[simp] theorem engineEdge_err (p : Option Pending) (s : State) : (engineEdge p s).err = s.err := by
  cases p with
  | none => rfl
  | some p => unfold engineEdge; dsimp only; split_ifs <;> simp

/-- A write of a command changes the command in flight, DONE and ERRCODE at most. -/
theorem accepted_frame (i : Instr) (s : State) :
    ∃ pend done err, accepted i s = { s with pend := pend, done := done, err := err } := by
  rcases accepted_cases i s with h | h | ⟨op, d, h, -⟩ <;> rw [h]
  · exact ⟨s.pend, true, s.err, rfl⟩
  · exact ⟨s.pend, true, _, rfl⟩
  · exact ⟨_, s.done, s.err, rfl⟩

theorem acceptedByte_frame (v : Byte) (s : State) :
    ∃ pend done err, acceptedByte v s = { s with pend := pend, done := done, err := err } := by
  unfold acceptedByte
  cases decodeByte v with
  | ok i => exact accepted_frame i s
  | error e => exact ⟨s.pend, true, _, rfl⟩

/-- The results of a command in flight are DOUT, KS, ksv and ksdir at most (R212). -/
theorem commitResults_frame (p : Pending) (s : State) :
    ∃ dout ks ksv ksdir, commitResults p s = { s with dout := dout, ks := ks, ksv := ksv, ksdir := ksdir } := by
  cases h : p.op with
  | crypt =>
    exact ⟨transform (schedule p.keysnap p.d) p.dinsnap, KeySched.zero, false, false, by
      simp only [commitResults, h, eraseSchedule]⟩
  | ksload => exact ⟨s.dout, schedule p.keysnap p.d, true, p.d, by simp only [commitResults, h]⟩
  | transform => exact ⟨transform s.ks p.dinsnap, s.ks, s.ksv, s.ksdir, by simp only [commitResults, h]⟩
  | kserase => exact ⟨s.dout, KeySched.zero, false, false, by simp only [commitResults, h, eraseSchedule]⟩

end Sys2Proof.Machine
end

