-- ==== Sys2Proof/Laws/PerInstr.lean ====
section
/-! SUPPORT. Statements about every command as syntax, proved constructor by constructor (LAWS.json). -/

namespace Sys2Proof.Laws.EncodingFields

/-- The command's byte has the command's fields, the fields are well formed, and Z is 0000 (R70, R72). -/
def Statement (i : Instr) : Prop :=
  splitFields (encodeByte i) = encodeFields i ∧ (encodeFields i).wellFormed = true ∧ (encodeFields i).z = 0

theorem nop : Statement .nop := by unfold Statement; decide
theorem encrypt : Statement .encrypt := by unfold Statement; decide
theorem decrypt : Statement .decrypt := by unfold Statement; decide
theorem ksloadE : Statement .ksloadE := by unfold Statement; decide
theorem ksloadD : Statement .ksloadD := by unfold Statement; decide
theorem transform : Statement .transform := by unfold Statement; decide
theorem kserase : Statement .kserase := by unfold Statement; decide

end Sys2Proof.Laws.EncodingFields
end

