-- ==== Sys2Proof/Tests/Slice0.lean ====
section
/-! SUPPORT. Small tests, each with its source in the spec, and the witnesses that the hypotheses of the statements can be met. -/

namespace Sys2Proof.Tests

open Sys2Proof.Machine

/-! ### WellFormed smoke: an ill-formed term for each check of R70 -/

theorem test_wellFormed_refuses_z : (CommandFields.mk 1 0 0).zIsZero = false ∧ (CommandFields.mk 1 0 0).wellFormed = false := by decide
theorem test_wellFormed_refuses_reserved_op : (CommandFields.mk 0 5 0).opDefined = false ∧ (CommandFields.mk 0 5 0).wellFormed = false := by decide
theorem test_wellFormed_refuses_direction : (CommandFields.mk 0 3 1).dAllowed = false ∧ (CommandFields.mk 0 3 1).wellFormed = false := by decide
theorem test_wellFormed_accepts_decrypt : (CommandFields.mk 0 1 1).wellFormed = true := by decide

/-! ### Decoding: Z, OP and D written out bit by bit from R70 and R72 -/

theorem test_decode_nop : decodeByte 0b00000000 = .ok .nop := by decide
theorem test_decode_encrypt : decodeByte 0b00000010 = .ok .encrypt := by decide
theorem test_decode_decrypt : decodeByte 0b00000011 = .ok .decrypt := by decide
theorem test_decode_ksloadE : decodeByte 0b00000100 = .ok .ksloadE := by decide
theorem test_decode_ksloadD : decodeByte 0b00000101 = .ok .ksloadD := by decide
theorem test_decode_transform : decodeByte 0b00000110 = .ok .transform := by decide
theorem test_decode_kserase : decodeByte 0b00001000 = .ok .kserase := by decide

/-- Each rejection of the decoder has a name (R70, R73, R75). -/
theorem test_decode_rejects_by_name :
    decodeByte 0x07 = .error .directionNotAllowed ∧ decodeByte 0x0A = .error .opReserved ∧
    decodeByte 0x12 = .error .zNotZero ∧ decodeBytes [] = .error .noByte ∧ decodeBytes [0x02, 0x00] = .error .tooLong := by
  decide

/-- The table's words (spec/opcode_table.json), and a word with no row. -/
theorem test_decodeTableWord :
    decodeTableWord 8 0x02 = some .encrypt ∧ decodeTableWord 8 0x08 = some .kserase ∧ decodeTableWord 8 0x09 = none := by
  decide

/-- V18: the illegal bytes it lists. -/
theorem test_illegal_bytes :
    ([0x01, 0x07, 0x09, 0x0a, 0x0f, 0x10, 0x12, 0x80, 0xff] : List Byte).all
      (fun c => (decodeByte c).toOption.isNone) = true := by decide

/-- R77: the three examples of transaction words. -/
theorem test_transaction_words :
    transactionOfAccess (.write 0x00 [0x02]) = some 0x8002 ∧ accessOfTransaction 0x8817 = some (.write 0x08 [0x17]) ∧
    accessOfTransaction 0x0100 = some (.read 0x01 1) := by decide

/-! ### States for the tests and witnesses -/

/-- The block of V1, "test" padded with zeros. -/
def v1Plain : Bytes8 := #v[0x74, 0x65, 0x73, 0x74, 0x00, 0x00, 0x00, 0x00]

/-- The ciphertext of V1. -/
def v1Cipher : Bytes8 := #v[0x2f, 0x98, 0x1d, 0xc5, 0x48, 0xe0, 0x9e, 0xc2]

/-- A command in flight in its last cycle, on reset's KEY and DIN. -/
def lastCycle (op : BusyOp) : Pending :=
  { op := op, d := false, keysnap := State.reset.key, dinsnap := State.reset.din, remaining := 1 }

/-- Reset's state with a command in flight in its last cycle. -/
def busyState (op : BusyOp) : State := { State.reset with pend := some (lastCycle op) }

/-- Reset's state with the default key's encrypt schedule loaded (STATUS = 0x06). -/
def loadedState : State :=
  { State.reset with ks := schedule State.reset.key false, ksv := true, done := true }

/-- A state's port driven by one cycle. -/
def driven (s : State) (c : PortCycle) : State := { s with port := [c] }

/-- A field of the next state, where a step has one. -/
def field {α : Type} (f : State → α) (o : Host.Outcome State Fault Refusal) : Option α :=
  match o with
  | .next t => some (f t)
  | .fault _ => none
  | .refused _ => none

/-! ### The cipher -/

/-- V2: the whole encrypt schedule of the default key. -/
theorem test_schedule_of_default_key :
    schedule Config.defaultKey false =
      #v[0x292b200b, 0x39362e0a, 0x3c1c1034, 0x0d1b120b, 0x192d0b00, 0x1917211c, 0x09231007, 0x3f171526,
         0x0f170122, 0x36320829, 0x3f163031, 0x24392115, 0x370c020e, 0x381d3838, 0x032a0434, 0x391f1501,
         0x3e1e0f29, 0x16090104, 0x143e2403, 0x191d0c32, 0x15230138, 0x1b171a01, 0x0d332e11, 0x3e262210,
         0x3e160a0c, 0x26261c06, 0x3e1c0512, 0x083d0602, 0x31083b01, 0x193f0005, 0x3e1f1802, 0x0e2a3830] := by
  decide +kernel

/-- V4, V7, V13: the initial permutation, a swap step and the first half-round of V1. -/
theorem test_units :
    ipw 0x74657374 0x00000000 = (0x1e1a160c, 0x001e0008) ∧ fpw 0xd442af83 0x708c9a1b = (0x2f981dc5, 0x48e09ec2) ∧
    swapmove 0x74657374 0x00000000 4 0x0f0f0f0f = (0x04050304, 0x07060707) ∧
    roundF 0x001e0008 0x292b200b 0x39362e0a = 0x0c47638a := by decide +kernel

/-! ### One step of each command -/

/-- R201: STATUS = 0x12 becomes 0x02. -/
theorem test_nop_clears_error :
    field status (step (driven { State.reset with done := true, err := 1 } (writeCycle 0x00 0x00))) = some 0x02 := by decide

/-- V1: the completion of ENCRYPT on the known-answer vector. -/
theorem test_encrypt_known_answer :
    field State.dout (step { State.reset with
      pend := some { op := .crypt, d := false, keysnap := Config.defaultKey, dinsnap := v1Plain, remaining := 1 } }) =
    some v1Cipher := by decide +kernel

/-- V1: the completion of DECRYPT on its ciphertext. -/
theorem test_decrypt_known_answer :
    field State.dout (step { State.reset with
      pend := some { op := .crypt, d := true, keysnap := Config.defaultKey, dinsnap := v1Cipher, remaining := 1 } }) =
    some v1Plain := by decide +kernel

/-- P4: the issue of ENCRYPT shows BUSY alone, DONE and ERRCODE cleared. -/
theorem test_encrypt_issue_status :
    field status (step (driven { State.reset with done := true, err := 1 } (writeCycle 0x00 0x02))) = some 0x01 := by decide

/-- V17 step 2: STATUS = 0x06 when KSLOAD.E completes. -/
theorem test_ksloadE_status : field status (step (busyState .ksload)) = some 0x06 := by decide +kernel

/-- V17 step 4: STATUS = 0x0e when KSLOAD.D completes. -/
theorem test_ksloadD_status :
    field status (step { State.reset with pend := some { lastCycle .ksload with d := true } }) = some 0x0e := by decide +kernel

/-- V17 step 6: TRANSFORM without a schedule, STATUS = 0x22 and never busy. -/
theorem test_transform_without_schedule :
    field status (step (driven State.reset (writeCycle 0x00 0x06))) = some 0x22 := by decide

/-- R206: TRANSFORM with the schedule of V2 gives V1's ciphertext. -/
theorem test_transform_known_answer :
    field State.dout (step { loadedState with pend := some { lastCycle .transform with dinsnap := v1Plain } }) =
    some v1Cipher := by decide +kernel

/-- R207: STATUS 0x06 becomes 0x02 when KSERASE completes. -/
theorem test_kserase_status :
    field status (step { loadedState with done := false, pend := some (lastCycle .kserase) }) = some 0x02 := by decide +kernel

/-- R208: `cmd 0x07` with STATUS = 0x06 gives STATUS = 0x16. -/
theorem test_illegal_byte_status :
    field status (step (driven { State.reset with ksv := true, done := true } (writeCycle 0x00 0x07))) = some 0x16 := by decide

/-- V19: a DIN write while busy is dropped and recorded; the command completes at the same edge (P4's note), STATUS = 0x32. -/
theorem test_write_while_busy :
    field (fun t => (status t, byteAt t.din 0)) (step (driven (busyState .kserase) (writeCycle 0x10 0xAA))) =
      some (0x32, 0x00) := by decide

/-- R210: KEY reads 0x00 and DIN reads back. -/
theorem test_reads :
    field State.rdata (step (driven State.reset (readCycle 0x08))) = some (some 0x00) ∧
    field State.rdata (step (driven { State.reset with din := v1Plain } (readCycle 0x11))) = some (some 0x65) := by decide

/-- R76: the `setkey` expansion writes the default key's bytes from offset 0x08. -/
theorem test_setkey : (setkey Config.defaultKey)[0]? = some (.wr 0x08 0x17) ∧ (setkey Config.defaultKey)[7]? = some (.wr 0x0F 0x07) := by
  decide

/-! ### Witnesses: the hypotheses of each statement can be met -/

theorem witness_reset_idle : State.reset.pend = none ∧ State.reset.ksv = false ∧ State.reset.ks = KeySched.zero := by decide
theorem witness_busy : (busyState .kserase).pend.isSome = true ∧ (busyState .kserase).pend = some (lastCycle .kserase) := by decide

theorem witness_DecodeFollowsFieldRule : (decodeByte 0x01).toOption = none ∧ State.reset.pend = none := by decide

theorem witness_IllegalBytesOnlyRecordError :
    (decodeByte 0x01).toOption = none ∧ (decodeByte 0x07).toOption = none ∧ (decodeByte 0x09).toOption = none ∧
    (decodeByte 0xFF).toOption = none ∧ (decodeByte 0x08).toOption = some .kserase ∧ State.reset.pend = none := by decide

theorem witness_TransactionWordsAgree :
    (0 : Nat) ≤ 31 ∧ (31 : Nat) ≤ 31 ∧ accessOfTransaction 0x9FFF = some (.write 31 [0xFF]) ∧
    accessOfTransaction 0x1F00 = some (.read 31 1) := by decide

theorem witness_WindowOffsetsAreThirtyTwo : windowOffset 0x4000 0x401F = some 31 ∧ windowOffset 0x4000 0x4020 = none := by decide

theorem witness_StepRunsDecodedCommand :
    (driven State.reset (writeCycle 0x00 0x02)).port = writeCycle 0x00 0x02 :: [] ∧ decodeByte 0x02 = .ok .encrypt ∧
    (driven State.reset (writeCycle 0x00 0x02)).pend = none := by decide

theorem witness_NopSetsDoneAndClearsError :
    ({ State.reset with done := true, err := 1 } : State).pend = none ∧
    status { State.reset with done := true, err := 1 } = 0x12 ∧ (busyState .kserase).pend.isSome = true := by decide

theorem witness_EncryptCompletes : State.reset.pend = none ∧ (busyState .crypt).pend.isSome = true := by decide
theorem witness_DecryptCompletes : State.reset.pend = none ∧ (busyState .crypt).pend.isSome = true := by decide
theorem witness_KsloadEncryptCompletes : State.reset.pend = none ∧ (busyState .ksload).pend.isSome = true := by decide
theorem witness_KsloadDecryptCompletes : State.reset.pend = none ∧ (busyState .ksload).pend.isSome = true := by decide
theorem witness_KseraseCompletes : loadedState.pend = none ∧ (busyState .kserase).pend.isSome = true := ⟨rfl, rfl⟩

theorem witness_TransformCompletesWithSchedule :
    loadedState.pend = none ∧ loadedState.ksv = true ∧ (busyState .transform).pend.isSome = true := ⟨rfl, rfl, rfl⟩

theorem witness_TransformWithoutScheduleIsRejected :
    State.reset.pend = none ∧ State.reset.ksv = false ∧ State.reset.ksdir = false := by decide

theorem witness_IllegalCommandChangesOnlyStatus :
    (decodeByte 0xFF).toOption = none ∧ State.reset.pend = none ∧
    status { State.reset with ksv := true, done := true } = 0x06 := by decide

/-- Each clause of the statement at the ends of its range, idle and busy. -/
theorem witness_HostWriteStoresKeyAndDin :
    State.reset.pend = none ∧ (busyState .kserase).pend.isSome = true ∧
    (8 ≤ 8 ∧ 8 ≤ 15) ∧ (8 ≤ 15 ∧ 15 ≤ 15) ∧ (16 ≤ 16 ∧ 16 ≤ 23) ∧ (16 ≤ 23 ∧ 23 ≤ 23) ∧
    (1 ≤ 1 ∧ 1 ≤ 7) ∧ (1 ≤ 7 ∧ 7 ≤ 7) ∧ (24 ≤ 24 ∧ 24 ≤ 31) ∧ 24 ≤ 31 ∧
    decodeByte 0x00 = .ok .nop ∧ decodeByte 0x01 = .error .directionNotAllowed := by decide

theorem witness_HostReadReturnsRegister :
    (driven State.reset (readCycle 0)).port = [readCycle 0] ∧ (driven (busyState .crypt) (readCycle 31)).port = [readCycle 31] := by
  decide

theorem witness_WriteWhileBusyIsDropped : (23 : Nat) ≤ 31 ∧ (busyState .crypt).pend.isSome = true := by decide

/-- The last refused offset boundary and both ranges of ignored writes. -/
theorem witness_ReservedAndReadOnlyOffsetsIgnoreWrites :
    (2 ≤ 2 ∧ 2 ≤ 7) ∧ (2 ≤ 7 ∧ 7 ≤ 7) ∧ (1 ≤ 1 ∧ 1 ≤ 7) ∧ (24 ≤ 24 ∧ 24 ≤ 31) ∧ 24 ≤ 31 ∧ 31 < 32 := by decide

theorem witness_OtherWidthsAreRefused : (4 : Nat) ≠ 1 ∧ ([] : List Byte).length ≠ 1 ∧ ([0, 0] : List Byte).length ≠ 1 := by decide

theorem witness_StepStopsOnlyOnAccessesThePortLacks :
    (driven State.reset (readCycle 32)).port = [readCycle 32] ∧
    accessRefusal (.read 32 1) = some (.offsetOutsideWindow 32) ∧ cycleLegal (readCycle 31) = true := by decide

theorem witness_EightWritesStoreKeyOrBlock : State.reset.pend = none := rfl

theorem witness_FirstPollSeesIssuedCommand :
    ({ State.reset with port := [writeCycle 0x00 (encodeByte .kserase), readCycle 0x01] } : State).pend = none ∧
    ({ State.reset with port := [writeCycle 0x00 (encodeByte .kserase), readCycle 0x01] } : State).port =
      writeCycle 0x00 (encodeByte .kserase) :: readCycle 0x01 :: [] := by decide

/-- Each clause of the statement, and for the last one an idle engine with a KEY write and a busy one with a CTRL write at the
edge of its completion. -/
theorem witness_FirstErrorIsKept :
    State.reset.pend = none ∧ (driven State.reset (readCycle 0x01)).port = readCycle 0x01 :: [] ∧
    field State.err (step (driven State.reset (readCycle 0x01))) = some 0 ∧
    (takeCycle (driven { State.reset with err := 1 } (writeCycle 0x08 0xAA))).1.rst = false ∧
    ¬ (takeCycle (driven { State.reset with err := 1 } (writeCycle 0x08 0xAA))).1.access = some (.write 0x00 [0xAA]) ∧
    field State.err (step (driven { State.reset with err := 1 } (writeCycle 0x08 0xAA))) = some 1 ∧
    ¬ (driven { busyState .kserase with err := 3 } (writeCycle 0x00 0x00)).pend = none ∧
    field (fun t => (t.err, t.done)) (step (driven { busyState .kserase with err := 3 } (writeCycle 0x00 0x00))) = some (3, true) := by
  decide

/-- The cycle of the witness above is no write to CTRL. -/
theorem witness_FirstErrorIsKept_no_issue (c : Byte) :
    (takeCycle (driven { State.reset with err := 1 } (writeCycle 0x08 0xAA))).1 ≠ writeCycle 0x00 c := by
  simp [takeCycle, driven, writeCycle]

theorem witness_SimultaneousEventsPriority :
    State.reset.pend = none ∧ (driven (busyState .crypt) (writeCycle 0 0)).pend = some (lastCycle .crypt) ∧
    (lastCycle .crypt).remaining ≤ 1 ∧ (driven (busyState .crypt) (writeCycle 23 0)).port = [writeCycle 23 0] ∧
    (driven (busyState .crypt) resetCycle).port = [resetCycle] ∧ resetCycle.rst = true ∧ cycleLegal resetCycle = true := by decide

theorem witness_ResetWinsAndResetsEverything :
    (driven (busyState .ksload) { rst := true, access := some (.write 0x08 [0xFF]) }).port =
      [{ rst := true, access := some (.write 0x08 [0xFF]) }] ∧
    cycleLegal { rst := true, access := some (.write 0x08 [0xFF]) } = true ∧
    field status (step (driven (busyState .ksload) { rst := true, access := some (.write 0x08 [0xFF]) })) = some 0 := by decide

/-- A busy state that meets the invariant, with a port that runs. -/
theorem witness_busy_inv : Inv (busyState .kserase) := by
  constructor <;> simp [busyState, lastCycle, State.reset, cmdCycles_pos]

theorem witness_CommandInFlightCompletes :
    Inv (busyState .kserase) ∧ (busyState .kserase).pend = some (lastCycle .kserase) ∧
    ∀ c ∈ (busyState .kserase).port.take (lastCycle .kserase).remaining, cycleRuns c = true :=
  ⟨witness_busy_inv, rfl, by decide⟩

theorem witness_StepKeepsEngineInvariant :
    Inv (busyState .kserase) ∧ ∃ t, step (busyState .kserase) = .next t := ⟨witness_busy_inv, _, rfl⟩

theorem witness_DoutChangesOnlyAtCompletion : ∃ t, step (busyState .crypt) = .next t := ⟨_, rfl⟩
theorem witness_ScheduleChangesOnlyAtCompletion : ∃ t, step (busyState .ksload) = .next t := ⟨_, rfl⟩

theorem witness_KeyAndDinChangeOnlyByHostWrites :
    (∃ t, step (driven State.reset (writeCycle 8 0xAA)) = .next t ∧ byteAt t.key 0 = 0xAA) ∧
    (takeCycle (driven State.reset (writeCycle 8 0xAA))).1.rst = false := ⟨⟨_, rfl, by decide⟩, rfl⟩

theorem witness_ClockedEngineRefinesStepRelation :
    (∃ t, step (busyState .kserase) = .next t) ∧
    cycleEvents (takeCycle (busyState .kserase)).1 (busyState .kserase) = [.engineComplete] := ⟨⟨_, rfl⟩, by decide⟩

/-- Two states that differ in KEY, DIN and DOUT and agree on what the host sees of time. -/
theorem witness_TimingIndependentOfKeyAndData :
    timingView State.reset = timingView { State.reset with key := v1Plain, din := v1Cipher, dout := v1Plain } ∧
    State.reset.key ≠ v1Plain := by decide

/-- Two states that differ in KEY and agree on all a read depends on, with a read of KEY to come. -/
theorem witness_KeyAndScheduleAreNotReadable :
    (∃ t₁, step (driven State.reset (readCycle 0x08)) = .next t₁) ∧
    (∃ t₂, step (driven { State.reset with key := v1Plain } (readCycle 0x08)) = .next t₂) ∧
    status (driven State.reset (readCycle 0x08)) = status (driven { State.reset with key := v1Plain } (readCycle 0x08)) ∧
    (driven State.reset (readCycle 0x08)).key ≠ (driven { State.reset with key := v1Plain } (readCycle 0x08)).key :=
  ⟨⟨_, rfl⟩, ⟨_, rfl⟩, by decide, by decide⟩

/-- The default key and V9's key differ in bit 7 of every byte only. -/
theorem witness_KeyBitsReadFromLeastSignificant :
    ∀ i < 8, byteAt Config.defaultKey i &&& 0x7F = byteAt #v[0x97, 0xd2, 0xeb, 0x86, 0xa3, 0xce, 0xd8, 0x87] i &&& 0x7F := by decide

/-- V3a: keys of each kind, mixed and plain. -/
theorem witness_WeakKeySchedules :
    (∀ i < 8, byteAt #v[0x00, 0x80, 0x00, 0x80, 0x80, 0x80, 0x00, 0x00] i = 0x00 ∨
      byteAt #v[0x00, 0x80, 0x00, 0x80, 0x80, 0x80, 0x00, 0x00] i = 0x80) ∧
    (∀ i < 8, byteAt #v[0x7F, 0xFF, 0x7F, 0x7F, 0xFF, 0xFF, 0x7F, 0x7F] i = 0x7F ∨
      byteAt #v[0x7F, 0xFF, 0x7F, 0x7F, 0xFF, 0xFF, 0x7F, 0x7F] i = 0xFF) ∧
    (State.reset.pend = none ∧ State.reset.ks = KeySched.zero ∧ State.reset.ksv = false) := by decide

/-- A mask and shift of the permutation unit that lose no mask bit (R150, R151). -/
theorem witness_SwapStepIsInvolution :
    (16 : Nat) ≤ 31 ∧ ((0x0000ffff : Word) <<< 16) >>> 16 = 0x0000ffff ∧ (0x0000ffff : Word).getLsbD 15 = true := by decide

/-- A mask with all the bits outside the windows; the zero key's two schedules are equal. -/
theorem witness_SubkeyBitsOutsideWindowsAreIgnored :
    (0xC0C0C0C0 : Word) &&& 0x3f3f3f3f = 0 ∧ schedule Bytes8.zero false = schedule Bytes8.zero true := by
  have h : ∀ d, schedule Bytes8.zero d = #v[0, 0, 0, 0, 0, 0, 0, 0, 0, 0, 0, 0, 0, 0, 0, 0,
      0, 0, 0, 0, 0, 0, 0, 0, 0, 0, 0, 0, 0, 0, 0, 0] := by decide +kernel
  exact ⟨by decide, (h false).trans (h true).symm⟩

/-- Positions, rounds, slots and table numbers at the ends of their ranges. -/
theorem witness_ranges :
    (∃ i, 1 ≤ i ∧ i ≤ 64) ∧ (∃ k, 1 ≤ k ∧ k ≤ 8) ∧ (∃ i, i < 16) ∧ (∃ s b, s < 16 ∧ b < 2) ∧ (∃ j, j < 56) ∧
    (1 ≤ 1 ∧ 8 ≤ 8 ∧ (1 : Nat) ≠ 8) :=
  ⟨⟨64, by decide⟩, ⟨8, by decide⟩, ⟨15, by decide⟩, ⟨15, 1, by decide⟩, ⟨55, by decide⟩, by decide⟩

end Sys2Proof.Tests
end

section
/-! The register window (spec/20_memory.md R54, R57): what a reserved offset reads, the offsets at which a write is ignored, and
the accesses that the port does not have. -/

namespace Sys2Proof.Machine

/-- The reserved offsets read 0x00 (R57). -/
theorem readReg_of_reserved {off : Nat} (h : 2 ≤ off ∧ off ≤ 7) (s : State) : readReg off s = 0 := by
  have hStatus : ¬ off = 0x01 := by omega
  have hDin : ¬ (0x10 ≤ off ∧ off ≤ 0x17) := by omega
  have hDout : ¬ (0x18 ≤ off ∧ off ≤ 0x1F) := by omega
  simp only [readReg, if_neg hStatus, if_neg hDin, if_neg hDout]

section Ignored
/-! Outside CTRL, KEY and DIN a write does nothing: idle, because no register stores the byte; busy, because it is no error. -/

variable {off : Nat} (h : (1 ≤ off ∧ off ≤ 7) ∨ 24 ≤ off)
include h

theorem storeReg_of_ignored (v : Byte) (s : State) : storeReg off v s = s := by
  have hKey : ¬ (0x08 ≤ off ∧ off ≤ 0x0F) := by omega
  have hDin : ¬ (0x10 ≤ off ∧ off ≤ 0x17) := by omega
  rw [storeReg, if_neg hKey, if_neg hDin]

theorem busyWriteIsError_of_ignored : busyWriteIsError off = false := by
  simp only [busyWriteIsError, Bool.or_eq_false_iff, Bool.and_eq_false_iff, decide_eq_false_iff_not]
  omega

theorem busyWrite_of_ignored (s : State) : busyWrite off s = s := by
  simp [busyWrite, busyWriteIsError_of_ignored h]

theorem writeReg_of_ignored (v : Byte) (s : State) : writeReg off v s = .next s := by
  have hCtrl : ¬ off = 0 := by omega
  cases hp : s.pend with
  | none => rw [writeReg_of_idle off v hp, if_neg hCtrl, storeReg_of_ignored h]
  | some p => rw [writeReg_of_busy off v (by simp [hp]), busyWrite_of_ignored h]

end Ignored

/-! Accesses the port does not have. -/

theorem accessRefusal_read_of_width {bytes : Nat} (h : bytes ≠ 1) (off : Nat) :
    accessRefusal (.read off bytes) = some (.accessWidth bytes) := if_pos h

theorem accessRefusal_write_of_width {data : List Byte} (h : data.length ≠ 1) (off : Nat) :
    accessRefusal (.write off data) = some (.accessWidth data.length) := if_pos h

theorem accessRefusal_read_of_outside {off : Nat} (h : 31 < off) :
    accessRefusal (.read off 1) = some (.offsetOutsideWindow off) := by
  simp [accessRefusal, h]

theorem accessRefusal_write_of_outside {off : Nat} (h : 31 < off) (v : Byte) :
    accessRefusal (.write off [v]) = some (.offsetOutsideWindow off) := by
  simp [accessRefusal, h]

/-- A step whose next cycle has an access the port lacks is refused, whether or not the cycle is a reset cycle (R54, R214). -/
theorem step_of_refusal {a : Access} {r : Refusal} (h : accessRefusal a = some r) (s : State) (rest : List PortCycle)
    (rst : Bool) : step { s with port := { rst := rst, access := some a } :: rest } = .refused r := by
  rw [step_eq, takeCycle_cons rfl]
  exact clockCycle_of_refusal (c := { rst := rst, access := some a }) h _

/-- Settles O19: a reserved offset lies in none of the readable ranges, an ignored one in none of the writable ranges, idle or
busy, and an offset above 31 is no access of the port. -/
theorem reservedAndReadOnlyOffsetsIgnoreWrites : Obligations.ReservedAndReadOnlyOffsetsIgnoreWrites := by
  refine ⟨fun s off h => readReg_of_reserved h s, fun s off v h => ?_, fun s rest off v rst h => ⟨?_, ?_⟩⟩
  · exact writeReg_of_ignored (h.imp_right And.left) v s
  · exact step_of_refusal (accessRefusal_write_of_outside h v) s rest rst
  · exact step_of_refusal (accessRefusal_read_of_outside h) s rest rst

/-- Settles O20: the port has one-byte accesses only, and an access it lacks refuses the step. -/
theorem otherWidthsAreRefused : Obligations.OtherWidthsAreRefused :=
  ⟨fun s rest off _ rst h => step_of_refusal (accessRefusal_read_of_width h off) s rest rst,
   fun s rest off _ rst h => step_of_refusal (accessRefusal_write_of_width h off) s rest rst⟩

end Sys2Proof.Machine
end

section
/-! Encoding (spec/30_encoding.md R71, R73, R77): which bytes decode, what an undecodable byte does at an idle engine, and the
transaction words. -/

namespace Sys2Proof.Machine

/-! Transaction words: three bits for we and the two zeros, five for the offset, eight for the byte. -/

theorem eq_append_fields (t : BitVec 16) : t = t.extractLsb' 13 3 ++ t.extractLsb' 8 5 ++ t.extractLsb' 0 8 := by
  rw [BitVec.extractLsb'_append_extractLsb'_eq_extractLsb' (show 13 = 8 + 5 from rfl),
    BitVec.extractLsb'_append_extractLsb'_eq_extractLsb' (show 8 = 0 + 8 from rfl), BitVec.extractLsb'_eq_self]

section Fields
variable (w : BitVec 3) (o : BitVec 5) (v : Byte)

@[simp] theorem byteField_append : (w ++ o ++ v).extractLsb' 0 8 = v := BitVec.extractLsb'_append_eq_right

@[simp] theorem offsetField_append : (w ++ o ++ v).extractLsb' 8 5 = o := by
  rw [BitVec.extractLsb'_append_eq_of_le (by decide)]
  exact BitVec.extractLsb'_append_eq_right

@[simp] theorem zerosField_append : (w ++ o ++ v).extractLsb' 13 2 = w.extractLsb' 0 2 := by
  rw [BitVec.extractLsb'_append_eq_of_le (by decide), BitVec.extractLsb'_append_eq_of_le (by decide)]

@[simp] theorem weField_append : (w ++ o ++ v)[15] = w[2] := by
  rw [← BitVec.getLsbD_eq_getElem, BitVec.getLsbD_append, BitVec.getLsbD_append]
  rfl

/-- The access of a word, by its fields (R77). -/
theorem accessOfTransaction_append :
    accessOfTransaction (w ++ o ++ v) =
      if w.extractLsb' 0 2 ≠ 0 then none
      else if w[2] then some (.write o.toNat [v])
      else if v = 0 then some (.read o.toNat 1)
      else none := by
  simp [accessOfTransaction]

end Fields

/-- The top three bits of a word that is an access: we, then 00 (R77). -/
theorem top_eq_of_zeros {w : BitVec 3} (h : w.extractLsb' 0 2 = 0) : w = if w[2] then 4#3 else 0#3 := by
  revert w
  decide

theorem transactionOfAccess_write {off : Nat} (h : off ≤ 31) (v : Byte) :
    transactionOfAccess (.write off [v]) = some (4#3 ++ BitVec.ofNat 5 off ++ v) := by
  have hin : ¬ 31 < off := by omega
  simp [transactionOfAccess, accessRefusal, hin]

theorem transactionOfAccess_read {off : Nat} (h : off ≤ 31) :
    transactionOfAccess (.read off 1) = some (0#3 ++ BitVec.ofNat 5 off ++ 0#8) := by
  have hin : ¬ 31 < off := by omega
  simp [transactionOfAccess, accessRefusal, hin]

theorem toNat_offset {off : Nat} (h : off ≤ 31) : (BitVec.ofNat 5 off).toNat = off := by
  rw [BitVec.toNat_ofNat, Nat.mod_eq_of_lt (by omega)]

/-- A word that is an access is that access's word: its top three bits are 100 for a write and 000 for a read. -/
theorem transactionOfAccess_of_accessOfTransaction {t : BitVec 16} {a : Access} (h : accessOfTransaction t = some a) :
    transactionOfAccess a = some t := by
  obtain ⟨w, o, v, rfl⟩ : ∃ (w : BitVec 3) (o : BitVec 5) (v : Byte), t = w ++ o ++ v := ⟨_, _, _, eq_append_fields t⟩
  have ho : o.toNat ≤ 31 := by have := o.isLt; omega
  rw [accessOfTransaction_append] at h
  split_ifs at h with hz hwe hv
  · cases h
    rw [transactionOfAccess_write ho, BitVec.ofNat_toNat, BitVec.setWidth_eq, top_eq_of_zeros (not_not.1 hz), if_pos hwe]
  · cases h
    rw [transactionOfAccess_read ho, BitVec.ofNat_toNat, BitVec.setWidth_eq, top_eq_of_zeros (not_not.1 hz), if_neg hwe, hv]
    rfl

/-- Settles O4: the word of an access is its three fields side by side, and a word's fields determine it. -/
theorem transactionWordsAgree : Obligations.TransactionWordsAgree := by
  refine ⟨fun off v h => ⟨_, transactionOfAccess_write h v, ?_⟩, fun off h => ⟨_, transactionOfAccess_read h, ?_⟩,
    fun _ _ => transactionOfAccess_of_accessOfTransaction, by decide⟩
  · simp [accessOfTransaction_append, toNat_offset h]
  · simp [accessOfTransaction_append, toNat_offset h]

/-! Decoding a byte, and what an undecodable one does. -/

theorem decodeByte_of_z_ne_zero {c : Byte} (h : c.extractLsb' 4 4 ≠ 0) : decodeByte c = .error .zNotZero := by
  have hz : ¬ (splitFields c).z.toNat = 0 := fun h0 => h (BitVec.eq_of_toNat_eq h0)
  simp only [decodeByte, if_neg hz]

theorem z_eq_zero_iff (c : Byte) : c.extractLsb' 4 4 = 0 ↔ c.toNat < 16 := by
  have hc := c.isLt
  have h0 : (0 : BitVec 4).toNat = 0 := rfl
  rw [← BitVec.toNat_inj, BitVec.extractLsb'_toNat, Nat.shiftRight_eq_div_pow, h0]
  omega

/-- The illegal bytes (R73): the high half-byte rules out every byte from 0x10 up, and the low sixteen are looked up. -/
theorem decodeByte_toOption_eq_none_iff (c : Byte) :
    (decodeByte c).toOption = none ↔ c = 0x01 ∨ c = 0x07 ∨ 9 ≤ c.toNat := by
  by_cases hz : c.extractLsb' 4 4 = 0
  · have hlow : ∀ n : Fin 16, (decodeByte (BitVec.ofNat 8 n)).toOption = none ↔
        BitVec.ofNat 8 n = 0x01 ∨ BitVec.ofNat 8 n = 0x07 ∨ 9 ≤ (BitVec.ofNat 8 n).toNat := by decide
    simpa using hlow ⟨c.toNat, (z_eq_zero_iff c).1 hz⟩
  · have hhigh : 9 ≤ c.toNat := by have := mt (z_eq_zero_iff c).2 hz; omega
    simp [decodeByte_of_z_ne_zero hz, hhigh, Except.toOption]

/-- R73's count: 0x01 and 0x07 below 9, and all 247 bytes from 9 on. -/
theorem illegalBytes_length :
    ((List.range 256).filter fun n => (decodeByte (BitVec.ofNat 8 n)).toOption.isNone).length = 249 := by
  have hhigh : ∀ n ∈ (List.range 247).map (9 + ·), (decodeByte (BitVec.ofNat 8 n)).toOption.isNone = true := by
    intro n hn
    obtain ⟨k, hk, rfl⟩ := List.mem_map.1 hn
    have hk' : k < 247 := List.mem_range.1 hk
    rw [Option.isNone_iff_eq_none, decodeByte_toOption_eq_none_iff, BitVec.toNat_ofNat, Nat.mod_eq_of_lt (by omega)]
    exact .inr (.inr (Nat.le_add_right 9 k))
  have hlow : (List.range 9).filter (fun n => (decodeByte (BitVec.ofNat 8 n)).toOption.isNone) = [1, 7] := by decide
  rw [show 256 = 9 + 247 from rfl, List.range_add, List.filter_append, hlow, List.filter_eq_self.2 hhigh]
  simp

/-- An undecodable byte written to CTRL at an idle engine (R71, R73, R208). -/
theorem writeCtrl_of_illegal {c : Byte} {s : State} (hc : (decodeByte c).toOption = none) (hs : s.pend = none) :
    writeCtrl c s = .next { s with done := true, err := 1 } := by
  cases hd : decodeByte c with
  | ok i => simp [hd, Except.toOption] at hc
  | error e =>
    rw [writeCtrl_eq_issue, issue_of_idle _ hs, acceptedByte, hd]
    rfl

/-- With a schedule loaded, every command but NOP is in flight after its issue (R211). -/
theorem accepted_pend_isSome {i : Instr} (hi : i ≠ .nop) {s : State} (hs : s.ksv = true) :
    (accepted i s).pend.isSome = true := by
  cases i with
  | nop => exact absurd rfl hi
  | transform => simp [accepted, issueTransform, hs, goBusy]
  | encrypt | decrypt | ksloadE | ksloadD | kserase => rfl

/-- NOP is the only command that at every idle state just leaves DONE = 1 and ERRCODE = 0 (R73): at an idle engine with a
schedule loaded, any other command goes busy. -/
theorem exec_only_sets_status_iff (i : Instr) :
    (∀ s : State, s.pend = none → exec i s = .next { s with done := true, err := 0 }) ↔ i = .nop := by
  constructor
  · intro h
    by_contra hi
    have hidle : ({ State.reset with ksv := true } : State).pend = none := rfl
    have hnext := h _ hidle
    rw [exec_of_idle i hidle] at hnext
    have hbusy := accepted_pend_isSome hi (s := clearStatus { State.reset with ksv := true }) rfl
    rw [Host.Outcome.next.inj hnext] at hbusy
    cases hbusy
  · rintro rfl s hs
    rw [exec_of_idle _ hs]
    rfl

/-- Settles O2, by the set of the illegal bytes, its size, their effect, and the command with no effect of its own. -/
theorem illegalBytesOnlyRecordError : Obligations.IllegalBytesOnlyRecordError :=
  ⟨decodeByte_toOption_eq_none_iff, illegalBytes_length, fun _ _ => writeCtrl_of_illegal, exec_only_sets_status_iff⟩

/-- Settles O1: the decoder's branches are R71's, and what R71 leaves over is ILLEGAL_CMD. -/
theorem decodeFollowsFieldRule : Obligations.DecodeFollowsFieldRule := by
  refine fun c => ⟨?_, fun hc s => writeCtrl_of_illegal hc⟩
  by_cases hz : c.extractLsb' 4 4 = 0
  · rw [if_neg (not_not.2 hz)]
    have hz' : (splitFields c).z.toNat = 0 := congrArg BitVec.toNat hz
    simp only [decodeByte, if_pos hz']
    simp only [splitFields]
    generalize (c.extractLsb' 1 3).toNat = op, (c.extractLsb' 0 1).toNat = d
    split
    -- the last branch: no row of R71, whatever the decoder's reason
    case h_8 => split_ifs <;> simp_all [Except.toOption]
    all_goals rfl
  · rw [if_pos hz, decodeByte_of_z_ne_zero hz]
    rfl

end Sys2Proof.Machine
end

section
/-! The constant tables (spec/40_tables.md R107-R112): permutation tables as maps, the construction of the SP tables, and the
bits that each SP table writes. -/

namespace Sys2Proof.Machine

/-! Permutations by position (R10). -/

theorem bitAt_permute {n : Nat} (table : List Nat) {m i : Nat} (x : BitVec n) (hi : 1 ≤ i) (him : i ≤ m) :
    bitAt (permute table m x) i = bitAt x (table.getD (i - 1) 0) := by
  rw [bitAt, getLsbD_permute, if_pos (by omega), show m - 1 - (m - i) = i - 1 by omega]

/-- Two values with the same bit at every position are equal. -/
theorem eq_of_bitAt_eq {n : Nat} {x y : BitVec n} (h : ∀ i, 1 ≤ i → i ≤ n → bitAt x i = bitAt y i) : x = y := by
  refine BitVec.eq_of_getLsbD_eq fun b hb => ?_
  have hpos := h (n - b) (by omega) (by omega)
  rwa [bitAt, bitAt, Nat.sub_sub_self hb.le] at hpos

/-- Table u undoes table t on n positions: every entry of t is a position, and u sends it back to where t has it. -/
def Undoes (n : Nat) (u t : List Nat) : Prop :=
  ∀ i ∈ Finset.Icc 1 n, t.getD (i - 1) 0 ∈ Finset.Icc 1 n ∧ u.getD (t.getD (i - 1) 0 - 1) 0 = i

theorem permute_permute_of_undoes {n : Nat} {u t : List Nat} (h : Undoes n u t) (x : BitVec n) :
    permute t n (permute u n x) = x := by
  refine eq_of_bitAt_eq fun i hi hin => ?_
  obtain ⟨hpos, hback⟩ := h i (Finset.mem_Icc.2 ⟨hi, hin⟩)
  obtain ⟨hle, hge⟩ := Finset.mem_Icc.1 hpos
  rw [bitAt_permute t _ hi hin, bitAt_permute u x hle hge, hback]

theorem fp_undoes_ip : Undoes 64 FP IP := by unfold Undoes; decide

theorem ip_undoes_fp : Undoes 64 IP FP := by unfold Undoes; decide

/-- Settles O40: each table undoes the other position by position, so the two maps undo each other bit by bit. -/
theorem finalPermutationInvertsInitial : Obligations.FinalPermutationInvertsInitial := by
  refine ⟨fun i hi hin => ?_, fun x => ⟨?_, ?_⟩⟩
  · exact (fp_undoes_ip i (Finset.mem_Icc.2 ⟨hi, hin⟩)).2
  · exact permute_permute_of_undoes ip_undoes_fp x
  · exact permute_permute_of_undoes fp_undoes_ip x

/-! The construction of the SP tables (R108). -/

/-- Where the construction puts the output y of box k; `spFromRule` applies it to `Sk(v)`. -/
def spread (k y : Nat) : Word := rotl (pword (BitVec.ofNat 32 y <<< (32 - 4 * k))) 1

theorem spFromRule_eq_spread (k : Nat) (v : BitVec 6) : spFromRule k v = spread k (sboxValue k v) := rfl

/-- By computation. A box has only 16 outputs, so going through the output y spreads each of them once for its four v. -/
theorem sp_eq_spread_of_sboxValue :
    ∀ k ∈ Finset.Icc 1 8, ∀ v : BitVec 6, ∃ y : Fin 16, sboxValue k v = y ∧ sp k v = spread k y := by
  decide +kernel

theorem sp_eq_spFromRule {k : Nat} (hk : k ∈ Finset.Icc 1 8) (v : BitVec 6) : sp k v = spFromRule k v := by
  obtain ⟨y, hbox, hsp⟩ := sp_eq_spread_of_sboxValue k hk v
  rw [hsp, spFromRule_eq_spread, hbox]

/-- Settles O38: the 512 entries are the construction's, and Pword is the permutation by P. -/
theorem spTablesFollowConstruction : Obligations.SpTablesFollowConstruction :=
  ⟨fun _ hk hk8 v => sp_eq_spFromRule (Finset.mem_Icc.2 ⟨hk, hk8⟩) v, fun x _ hi hi32 => bitAt_permute P x hi hi32⟩

/-! The bits that each SP table writes (R110). Two words are disjoint when their AND is 0. -/

section Disjoint
variable {w : Nat}

/-- A word within a is still within the OR of a and a list. -/
theorem and_foldl_or_of_and {x a : BitVec w} (h : x &&& a = x) (l : List (BitVec w)) :
    x &&& l.foldl (· ||| ·) a = x := by
  induction l generalizing a with
  | nil => exact h
  | cons b l ih =>
    refine ih ?_
    rw [BitVec.and_or_distrib_left, h]
    ext i hi
    simp +contextual

/-- An element of a list lies within the OR of the list. -/
theorem and_foldl_or_of_mem {x : BitVec w} {l : List (BitVec w)} (h : x ∈ l) (a : BitVec w) :
    x &&& l.foldl (· ||| ·) a = x := by
  induction l generalizing a with
  | nil => cases h
  | cons b l ih =>
    obtain rfl | hl := List.mem_cons.1 h
    · exact and_foldl_or_of_and (by ext i hi; simp +contextual) l
    · exact ih hl _

theorem xor_eq_or_of_and_eq_zero {x y : BitVec w} (h : x &&& y = 0) : x ^^^ y = x ||| y := by
  ext i hi
  have hbit : (x[i] && y[i]) = false := by rw [← BitVec.getElem_and, h, BitVec.ofNat_eq_ofNat, BitVec.getElem_zero]
  rw [BitVec.getElem_xor, BitVec.getElem_or]
  cases hx : x[i] <;> simp_all

/-- Words within disjoint masks are disjoint. -/
theorem and_eq_zero_of_masks {x y m n : BitVec w} (hx : x &&& m = x) (hy : y &&& n = y) (h : m &&& n = 0) : x &&& y = 0 := by
  calc x &&& y = (x &&& m) &&& (n &&& y) := by rw [hx, BitVec.and_comm n, hy]
    _ = x &&& (m &&& n) &&& y := by simp only [BitVec.and_assoc]
    _ = 0 := by rw [h]; simp

/-- Of pairwise disjoint words, OR, XOR and sum are one word: no bit is set twice, so nothing cancels or carries. -/
theorem foldl_or_eq_of_pairwise_disjoint {a : BitVec w} {l : List (BitVec w)} (h : (a :: l).Pairwise (· &&& · = 0)) :
    l.foldl (· ||| ·) a = l.foldl (· ^^^ ·) a ∧ l.foldl (· ||| ·) a = l.foldl (· + ·) a := by
  induction l generalizing a with
  | nil => exact ⟨rfl, rfl⟩
  | cons b l ih =>
    obtain ⟨ha, hbl⟩ := List.pairwise_cons.1 h
    obtain ⟨hab, hac⟩ := List.forall_mem_cons.1 ha
    obtain ⟨hbc, hl⟩ := List.pairwise_cons.1 hbl
    have hor : ((a ||| b) :: l).Pairwise (· &&& · = 0) :=
      List.pairwise_cons.2 ⟨fun c hc => by simp [BitVec.and_or_distrib_right, hac c hc, hbc c hc], hl⟩
    simpa [xor_eq_or_of_and_eq_zero hab, BitVec.add_eq_or_of_and_eq_zero _ _ hab] using ih hor

end Disjoint

theorem sp_and_spMask (k : Nat) (v : BitVec 6) : sp k v &&& spMask k = sp k v := by
  rw [sp, spMask]
  obtain hv | hv := Nat.lt_or_ge v.toNat (spTable k).length
  · rw [List.getD_eq_getElem _ _ hv]
    exact and_foldl_or_of_mem (List.getElem_mem hv) 0
  · rw [List.getD_eq_default _ _ hv, BitVec.ofNat_eq_ofNat, BitVec.zero_and]

theorem spMask_and_spMask :
    ∀ j ∈ Finset.Icc 1 8, ∀ k ∈ Finset.Icc 1 8, j ≠ k → spMask j &&& spMask k = 0 := by decide

/-- The lookups in different tables are disjoint, whatever the windows. -/
theorem sp_and_sp {j k : Nat} (hj : j ∈ Finset.Icc 1 8) (hk : k ∈ Finset.Icc 1 8) (hjk : j ≠ k) (u v : BitVec 6) :
    sp j u &&& sp k v = 0 :=
  and_eq_zero_of_masks (sp_and_spMask j u) (sp_and_spMask k v) (spMask_and_spMask j hj k hk hjk)

theorem sp_pairwise_disjoint (v : Nat → BitVec 6) :
    ((List.range' 1 8).map fun k => sp k (v k)).Pairwise (· &&& · = 0) := by
  have hmem : ∀ k ∈ List.range' 1 8, k ∈ Finset.Icc 1 8 := by decide
  have hne : (List.range' 1 8).Pairwise (· ≠ ·) := List.nodup_range'
  exact List.pairwise_map.2 (hne.imp_of_mem fun hj hk hjk => sp_and_sp (hmem _ hj) (hmem _ hk) hjk _ _)

/-- Settles O39: the masks by computation, and the eight lookups as pairwise disjoint words. -/
theorem spTablesWriteDisjointBits : Obligations.SpTablesWriteDisjointBits := by
  refine ⟨by decide, by decide, by decide, by decide, by decide, by decide, by decide, by decide,
    fun j k hj hj8 hk hk8 => ?_, by decide, fun v => foldl_or_eq_of_pairwise_disjoint (sp_pairwise_disjoint v)⟩
  exact spMask_and_spMask j (Finset.mem_Icc.2 ⟨hj, hj8⟩) k (Finset.mem_Icc.2 ⟨hk, hk8⟩)

end Sys2Proof.Machine
end

section
/-! The packer (spec/42_packing.md R140-R142) and the permutation unit (spec/43_permutation.md R150-R156): each undoes its
counterpart. -/

namespace Sys2Proof.Machine

/-! A packed word is its four bytes side by side. -/

theorem packWord_eq_append (b0 b1 b2 b3 : Byte) : packWord b0 b1 b2 b3 = b0 ++ b1 ++ b2 ++ b3 := by
  refine BitVec.eq_of_getLsbD_eq fun i hi => ?_
  simp only [packWord, BitVec.getLsbD_or, BitVec.getLsbD_shiftLeft, BitVec.getLsbD_setWidth, BitVec.getLsbD_append,
    BitVec.truncate_eq_setWidth]
  interval_cases i <;> simp

theorem eq_append_bytes (w : Word) :
    w.extractLsb' 24 8 ++ w.extractLsb' 16 8 ++ w.extractLsb' 8 8 ++ w.extractLsb' 0 8 = w := by
  rw [BitVec.extractLsb'_append_extractLsb'_eq_extractLsb' (show 24 = 16 + 8 from rfl),
    BitVec.extractLsb'_append_extractLsb'_eq_extractLsb' (show 16 = 8 + 8 from rfl),
    BitVec.extractLsb'_append_extractLsb'_eq_extractLsb' (show 8 = 0 + 8 from rfl), BitVec.extractLsb'_eq_self]

theorem pack_unpack (w0 w1 : Word) : pack (unpack w0 w1) = (w0, w1) := by
  simp [pack, unpack, packWord_eq_append, eq_append_bytes]

/-- The lowest n bits of each byte of a packed word. -/
theorem extractLsb'_packWord (b0 b1 b2 b3 : Byte) {n : Nat} (h : n ≤ 8) :
    (packWord b0 b1 b2 b3).extractLsb' 24 n = b0.extractLsb' 0 n ∧
    (packWord b0 b1 b2 b3).extractLsb' 16 n = b1.extractLsb' 0 n ∧
    (packWord b0 b1 b2 b3).extractLsb' 8 n = b2.extractLsb' 0 n ∧
    (packWord b0 b1 b2 b3).extractLsb' 0 n = b3.extractLsb' 0 n := by
  have hbyte : 0 + n ≤ 8 := by omega
  rw [packWord_eq_append]
  refine ⟨?_, ?_, ?_, BitVec.extractLsb'_append_eq_of_add_le hbyte⟩
  · rw [BitVec.extractLsb'_append_eq_of_le (by decide), BitVec.extractLsb'_append_eq_of_le (by decide),
      BitVec.extractLsb'_append_eq_of_le (by decide)]
  · rw [BitVec.extractLsb'_append_eq_of_le (by decide), BitVec.extractLsb'_append_eq_of_le (by decide),
      BitVec.extractLsb'_append_eq_of_add_le hbyte]
  · rw [BitVec.extractLsb'_append_eq_of_le (by decide), BitVec.extractLsb'_append_eq_of_add_le hbyte]

theorem unpack_pack (b : Bytes8) : unpack (pack b).1 (pack b).2 = b := by
  ext1 i hi
  simp only [unpack, pack, extractLsb'_packWord, le_refl, BitVec.extractLsb'_eq_self]
  interval_cases i <;> rfl

/-! The swap step, and the two permutations built from it. -/

/-- A shift left that loses no bit of the mask loses no bit of a masked word. -/
theorem ushiftRight_shiftLeft_and {m : Word} {n : Nat} (h : (m <<< n) >>> n = m) (x : Word) :
    ((x &&& m) <<< n) >>> n = x &&& m := by
  have hm : ∀ i < 32, n + i < 32 ∨ m.getLsbD i = false := by
    intro i hi
    have hbit := congrArg (BitVec.getLsbD · i) h
    simp only [BitVec.getLsbD_ushiftRight, BitVec.getLsbD_shiftLeft] at hbit
    grind
  refine BitVec.eq_of_getLsbD_eq fun i hi => ?_
  rw [BitVec.getLsbD_ushiftRight, BitVec.getLsbD_shiftLeft, BitVec.getLsbD_and]
  obtain h32 | h0 := hm i hi
  · simp [h32]
  · simp [h0]

theorem xor_xor_xor_cancel {w : Nat} (x y z : BitVec w) : (x ^^^ z) ^^^ (y ^^^ z) = x ^^^ y := by
  rw [show (x ^^^ z) ^^^ (y ^^^ z) = (x ^^^ y) ^^^ (z ^^^ z) by ac_rfl, BitVec.xor_self, BitVec.xor_zero]

/-- The second swap step finds the same difference of the masked bits, and XORs it away again (R150). -/
theorem swapmove_swapmove {m : Word} {n : Nat} (h : (m <<< n) >>> n = m) (a b : Word) :
    swapmove (swapmove a b n m).1 (swapmove a b n m).2 n m = (a, b) := by
  simp only [swapmove, BitVec.ushiftRight_xor_distrib, ushiftRight_shiftLeft_and h, xor_xor_xor_cancel]
  simp only [BitVec.xor_assoc, BitVec.xor_self, BitVec.xor_zero]

/-- With no shift the two words have the same part in a swap step, so it undoes itself on the exchanged words too. -/
theorem swapmove_swapmove_exchanged (m a b : Word) :
    swapmove (swapmove a b 0 m).2 (swapmove a b 0 m).1 0 m = (b, a) := by
  have hswap : swapmove b a 0 m = ((swapmove a b 0 m).2, (swapmove a b 0 m).1) := by
    simp [swapmove, BitVec.xor_comm a b]
  simpa only [hswap] using swapmove_swapmove (m := m) (n := 0) (by simp) b a

theorem rotl_rotl_of_add_eq {m n : Nat} (hm : 0 < m) (hn : 0 < n) (h : m + n = 32) (x : Word) : rotl (rotl x m) n = x := by
  have hmod : m % 32 = m ∧ n % 32 = n := ⟨Nat.mod_eq_of_lt (by omega), Nat.mod_eq_of_lt (by omega)⟩
  rw [rotl_eq_rotateLeft _ (by omega), rotl_eq_rotateLeft _ (by omega)]
  ext i hi
  simp only [BitVec.getElem_rotateLeft, hmod]
  by_cases hin : i < n
  · have hback : ¬ 32 - n + i < m := by omega
    simp only [dif_pos hin, dif_neg hback]
    congr 1
    omega
  · have hback : i - n < m := by omega
    simp only [dif_neg hin, dif_pos hback]
    congr 1
    omega

@[simp] theorem rotr_rotl (x : Word) : rotr (rotl x 1) 1 = x := rotl_rotl_of_add_eq (by decide) (by decide) rfl x

@[simp] theorem rotl_rotr (x : Word) : rotl (rotr x 1) 1 = x := rotl_rotl_of_add_eq (by decide) (by decide) rfl x

/-- The final permutation's swap steps are the initial one's, last first, on exchanged halves (R156). -/
theorem fpw_ipw (a b : Word) : fpw (ipw a b).2 (ipw a b).1 = (a, b) := by
  simp (disch := decide) only [ipw, fpw, rotr_rotl, swapmove_swapmove_exchanged, swapmove_swapmove]

theorem ipw_fpw (l r : Word) : ipw (fpw l r).1 (fpw l r).2 = (r, l) := by
  simp (disch := decide) only [ipw, fpw, rotl_rotr, swapmove_swapmove_exchanged, swapmove_swapmove]

end Sys2Proof.Machine
end

section
/-! The rounds (spec/44_rounds.md R173-R176) under a schedule whose pairs are reversed: they undo the transform. -/

namespace Sys2Proof.Machine

/-- Word w of a reversed schedule, by the place it comes from. -/
theorem ksWord_revPairs_of_eq (ks : KeySched) {v w : Nat} (hw : w < 32) (h : 2 * (15 - w / 2) + w % 2 = v) :
    ksWord (revPairs ks) w = ksWord ks v := by
  rw [ksWord_revPairs ks hw, h]

/-- A double-round of the reversed schedule takes the two pairs of double-round k in the other order: on the exchanged halves
its half-round A undoes the old half-round B, and its half-round B the old half-round A. -/
theorem doubleRound_revPairs_swap (ks : KeySched) {j k : Nat} (h : j + k = 7) (lr : Word × Word) :
    doubleRound (revPairs ks) j (doubleRound ks k lr).swap = lr.swap := by
  have hA0 : ksWord (revPairs ks) (4 * j) = ksWord ks (4 * k + 2) := ksWord_revPairs_of_eq ks (by omega) (by omega)
  have hA1 : ksWord (revPairs ks) (4 * j + 1) = ksWord ks (4 * k + 3) := ksWord_revPairs_of_eq ks (by omega) (by omega)
  have hB0 : ksWord (revPairs ks) (4 * j + 2) = ksWord ks (4 * k) := ksWord_revPairs_of_eq ks (by omega) (by omega)
  have hB1 : ksWord (revPairs ks) (4 * j + 3) = ksWord ks (4 * k + 1) := ksWord_revPairs_of_eq ks (by omega) (by omega)
  simp [doubleRound, hA0, hA1, hB0, hB1, Prod.swap]

/-- Seen from the exchanged halves, the rounds of the reversed schedule unwind those of the schedule. -/
theorem rounds_revPairs_swap (ks : KeySched) (lr : Word × Word) : rounds (revPairs ks) (rounds ks lr).swap = lr.swap := by
  simp [rounds_eq, doubleRound_revPairs_swap]

/-- The transform with the pairs reversed undoes the transform (R180): the final permutation hands the halves to the next
initial one exchanged. -/
theorem transform_revPairs_transform (ks : KeySched) (b : Bytes8) : transform (revPairs ks) (transform ks b) = b := by
  have hswap (lr : Word × Word) : ipw (fpw lr.1 lr.2).1 (fpw lr.1 lr.2).2 = lr.swap := ipw_fpw lr.1 lr.2
  rw [transform_eq (revPairs ks), transform_eq ks, pack_unpack, hswap, rounds_revPairs_swap, Prod.fst_swap, Prod.snd_swap,
    fpw_ipw, unpack_pack]

/-- A schedule that is its own reverse undoes itself (R131, R179). -/
theorem transform_transform_of_revPairs_eq {ks : KeySched} (h : revPairs ks = ks) (b : Bytes8) :
    transform ks (transform ks b) = b := by
  simpa only [h] using transform_revPairs_transform ks b

theorem revPairs_revPairs (ks : KeySched) : revPairs (revPairs ks) = ks := by
  refine keySched_ext fun w hw => ?_
  rw [ksWord_revPairs _ hw, ksWord_revPairs_of_eq ks (v := w) (by omega) (by omega)]

theorem revPairs_replicate (v : Word) : revPairs (Vector.replicate 32 v) = Vector.replicate 32 v := by
  refine keySched_ext fun w hw => ?_
  rw [ksWord_revPairs _ hw, ksWord_of_lt _ (by omega), ksWord_of_lt _ hw, Vector.getElem_replicate, Vector.getElem_replicate]

end Sys2Proof.Machine
end

section
/-! The Key Schedule Generator (spec/41_key_schedule.md R120-R132): the two directions, the layout of the cooked words, and what
of the key the schedule depends on. -/

namespace Sys2Proof.Machine

/-! Word b of pair s, raw and cooked (R125, R127). -/

theorem ksWord_raw_pair (key : Bytes8) (d : Bool) {s b : Nat} (hs : s < 16) (hb : b < 2) :
    ksWord (raw key d) (2 * s + b) =
      if b = 0 then (rawPair key (roundOfSlot d s)).1 else (rawPair key (roundOfSlot d s)).2 := by
  rw [ksWord_raw key d (by omega), show (2 * s + b) / 2 = s by omega, show (2 * s + b) % 2 = b by omega]

theorem ksWord_cookey_pair (r : KeySched) {s b : Nat} (hs : s < 16) (hb : b < 2) :
    ksWord (cookey r) (2 * s + b) =
      if b = 0 then cookEven (ksWord r (2 * s)) (ksWord r (2 * s + 1))
      else cookOdd (ksWord r (2 * s)) (ksWord r (2 * s + 1)) := by
  rw [ksWord_cookey r (by omega), show (2 * s + b) / 2 = s by omega, show (2 * s + b) % 2 = b by omega]

theorem ksWord_revPairs_pair (ks : KeySched) {s b : Nat} (hs : s < 16) (hb : b < 2) :
    ksWord (revPairs ks) (2 * s + b) = ksWord ks (2 * (15 - s) + b) :=
  ksWord_revPairs_of_eq ks (by omega) (by omega)

/-- Two schedules with the same 16 pairs are equal. -/
theorem keySched_ext_pairs {a c : KeySched} (h : ∀ s < 16, ∀ b < 2, ksWord a (2 * s + b) = ksWord c (2 * s + b)) : a = c := by
  refine keySched_ext fun w hw => ?_
  have hpair := h (w / 2) (by omega) (w % 2) (Nat.mod_lt w (by decide))
  rwa [Nat.div_add_mod] at hpair

/-! The decrypt schedule is the encrypt schedule reversed, raw and cooked (R126). -/

theorem raw_true (key : Bytes8) : raw key true = revPairs (raw key false) := by
  refine keySched_ext_pairs fun s hs b hb => ?_
  rw [ksWord_revPairs_pair _ hs hb, ksWord_raw_pair key true hs hb, ksWord_raw_pair key false (by omega) hb]
  rfl

/-- The regrouping works pair by pair, so the pairs can be reversed before it or after it. -/
theorem cookey_revPairs (r : KeySched) : cookey (revPairs r) = revPairs (cookey r) := by
  refine keySched_ext_pairs fun s hs b hb => ?_
  have hEven : ksWord (revPairs r) (2 * s) = ksWord r (2 * (15 - s)) := ksWord_revPairs_pair r hs (b := 0) (by decide)
  have hOdd : ksWord (revPairs r) (2 * s + 1) = ksWord r (2 * (15 - s) + 1) := ksWord_revPairs_pair r hs (by decide)
  rw [ksWord_revPairs_pair _ hs hb, ksWord_cookey_pair _ hs hb, ksWord_cookey_pair _ (by omega) hb, hEven, hOdd]

theorem schedule_true (key : Bytes8) : schedule key true = revPairs (schedule key false) := by
  rw [schedule_eq, schedule_eq, raw_true, cookey_revPairs]

theorem schedule_false (key : Bytes8) : schedule key false = revPairs (schedule key true) := by
  rw [schedule_true, revPairs_revPairs]

/-- Settles O55: each direction's schedule is the other's reversed, and reversing a schedule undoes its transform. -/
theorem encryptDecryptRoundTrip : Obligations.EncryptDecryptRoundTrip := by
  refine fun key b => ⟨?_, ?_⟩
  · rw [schedule_true, transform_revPairs_transform]
  · rw [schedule_false, transform_revPairs_transform]

/-- Settles O43: both decrypt schedules are reversed encrypt schedules, and reversing takes pair s to pair 15 - s. -/
theorem decryptScheduleReversesPairs : Obligations.DecryptScheduleReversesPairs := by
  intro key s b hs hb
  rw [raw_true, schedule_true, ksWord_revPairs_pair _ hs hb, ksWord_revPairs_pair _ hs hb]
  exact ⟨rfl, rfl⟩

/-! The cooked words (R128): each of the four bytes of a cooked word is a 6-bit chunk under two zero bits. -/

/-- The byte that holds a chunk, bits 7:6 zero. -/
def chunkByte (c : BitVec 6) : Byte := 0#2 ++ c

theorem extractLsb'_chunkByte (c : BitVec 6) : (chunkByte c).extractLsb' 0 6 = c := BitVec.extractLsb'_append_eq_right

theorem setWidth_chunkByte (c : BitVec 6) : (chunkByte c).setWidth 32 = c.setWidth 32 := by
  refine BitVec.eq_of_getLsbD_eq fun i hi => ?_
  rw [chunkByte, BitVec.getLsbD_setWidth, BitVec.getLsbD_setWidth, BitVec.getLsbD_append, BitVec.getLsbD_zero]
  grind

/-- A mask of six ones takes the window there. -/
theorem and_mask_eq_window {m : Word} {lo : Nat} (hm : m = 0x3f#32 <<< lo) (r : Word) :
    r &&& m = (window r lo).setWidth 32 <<< lo := by
  have hones (k : Nat) : (0x3f#32).getLsbD k = decide (k < 6) := by
    rw [BitVec.getLsbD_ofNat, show 0x3f = 2 ^ 6 - 1 from rfl, Nat.testBit_two_pow_sub_one]
    grind
  refine BitVec.eq_of_getLsbD_eq fun i hi => ?_
  simp only [hm, window, BitVec.getLsbD_and, BitVec.getLsbD_shiftLeft, BitVec.getLsbD_setWidth,
    BitVec.getLsbD_extractLsb', hones]
  grind

theorem ushiftRight_shiftLeft_chunk {lo n : Nat} (hn : n ≤ lo) (h : lo + 6 ≤ 32) (c : BitVec 6) :
    (c.setWidth 32 <<< lo) >>> n = c.setWidth 32 <<< (lo - n) := by
  refine BitVec.eq_of_getLsbD_eq fun i hi => ?_
  simp only [BitVec.getLsbD_ushiftRight, BitVec.getLsbD_shiftLeft, BitVec.getLsbD_setWidth]
  grind

theorem cookEven_eq_packWord (r0 r1 : Word) :
    cookEven r0 r1 = packWord (chunkByte (window r0 18)) (chunkByte (window r0 6))
      (chunkByte (window r1 18)) (chunkByte (window r1 6)) := by
  have h18 (r : Word) := and_mask_eq_window (m := 0x00fc0000) (lo := 18) rfl r
  have h6 (r : Word) := and_mask_eq_window (m := 0x00000fc0) (lo := 6) rfl r
  simp (disch := decide) only [cookEven, packWord, h18, h6, ← BitVec.shiftLeft_add, ushiftRight_shiftLeft_chunk,
    BitVec.truncate_eq_setWidth, setWidth_chunkByte, Nat.reduceAdd, Nat.reduceSub, BitVec.shiftLeft_zero]

theorem cookOdd_eq_packWord (r0 r1 : Word) :
    cookOdd r0 r1 = packWord (chunkByte (window r0 12)) (chunkByte (window r0 0))
      (chunkByte (window r1 12)) (chunkByte (window r1 0)) := by
  have h12 (r : Word) := and_mask_eq_window (m := 0x0003f000) (lo := 12) rfl r
  have h0 (r : Word) := and_mask_eq_window (m := 0x0000003f) (lo := 0) rfl r
  simp (disch := decide) only [cookOdd, packWord, h12, h0, ← BitVec.shiftLeft_add, ushiftRight_shiftLeft_chunk,
    BitVec.truncate_eq_setWidth, setWidth_chunkByte, Nat.reduceAdd, Nat.reduceSub, BitVec.shiftLeft_zero]

theorem append_chunkByte {w : Nat} (x : BitVec w) (c : BitVec 6) : x ++ chunkByte c = (x ++ 0#2 ++ c : BitVec (w + 2 + 6)) :=
  BitVec.append_assoc'

section Chunks
variable (c0 c1 c2 c3 : BitVec 6)

theorem packWord_chunkByte_eq_append :
    packWord (chunkByte c0) (chunkByte c1) (chunkByte c2) (chunkByte c3) =
      (0#2 ++ c0 ++ 0#2 ++ c1 ++ 0#2 ++ c2 ++ 0#2 ++ c3 : BitVec 32) := by
  rw [packWord_eq_append, append_chunkByte, append_chunkByte, append_chunkByte, chunkByte]

theorem packWord_chunkByte_and : packWord (chunkByte c0) (chunkByte c1) (chunkByte c2) (chunkByte c3) &&& 0xC0C0C0C0 = 0 := by
  have hmask : (0xC0C0C0C0 : Word) = 0xC0#8 ++ 0xC0#8 ++ 0xC0#8 ++ 0xC0#8 := rfl
  have hbyte (c : BitVec 6) : chunkByte c &&& 0xC0#8 = 0#8 := by
    rw [chunkByte, show 0xC0#8 = 3#2 ++ 0#6 from rfl, BitVec.and_append, BitVec.zero_and, BitVec.and_zero]
    rfl
  rw [packWord_eq_append, hmask, BitVec.and_append, BitVec.and_append, BitVec.and_append]
  simp only [hbyte]
  rfl

theorem window_packWord_chunkByte :
    window (packWord (chunkByte c0) (chunkByte c1) (chunkByte c2) (chunkByte c3)) 24 = c0 ∧
    window (packWord (chunkByte c0) (chunkByte c1) (chunkByte c2) (chunkByte c3)) 16 = c1 ∧
    window (packWord (chunkByte c0) (chunkByte c1) (chunkByte c2) (chunkByte c3)) 8 = c2 ∧
    window (packWord (chunkByte c0) (chunkByte c1) (chunkByte c2) (chunkByte c3)) 0 = c3 := by
  have h := extractLsb'_packWord (chunkByte c0) (chunkByte c1) (chunkByte c2) (chunkByte c3) (n := 6) (by decide)
  simpa only [window, extractLsb'_chunkByte] using h

end Chunks

theorem extractLsb'_append_window (r : Word) {lo n : Nat} :
    r.extractLsb' (lo + 6) n ++ window r lo = r.extractLsb' lo (n + 6) :=
  BitVec.extractLsb'_append_extractLsb'_eq_extractLsb' rfl

theorem windows_append (r : Word) : window r 18 ++ window r 12 ++ window r 6 ++ window r 0 = r.extractLsb' 0 24 := by
  rw [window, extractLsb'_append_window (lo := 12), extractLsb'_append_window (lo := 6), extractLsb'_append_window (lo := 0)]

theorem append_windows {w : Nat} (x : BitVec w) (r : Word) :
    x ++ window r 18 ++ window r 12 ++ window r 6 ++ window r 0 = (x ++ r.extractLsb' 0 24 : BitVec (w + 24)) := by
  have hnext {lo n : Nat} :
      x ++ r.extractLsb' (lo + 6) n ++ window r lo = (x ++ r.extractLsb' lo (n + 6) : BitVec (w + (n + 6))) := by
    rw [← extractLsb'_append_window]
    exact BitVec.append_assoc
  rw [window, hnext (lo := 12), hnext (lo := 6), hnext (lo := 0)]

theorem subkey48_cook (r0 r1 : Word) :
    subkey48 (cookEven r0 r1) (cookOdd r0 r1) = (r0.extractLsb' 0 24 ++ r1.extractLsb' 0 24 : BitVec 48) := by
  rw [subkey48, cookEven_eq_packWord, cookOdd_eq_packWord]
  simp only [window_packWord_chunkByte]
  rw [append_windows, windows_append]

theorem window_xor (x k : Word) (lo : Nat) : window (x ^^^ k) lo = window x lo ^^^ window k lo := BitVec.extractLsb'_xor

/-! Every word of a schedule is a cooked word, or lies beyond its end (R129). -/

theorem ksWord_schedule_pair (key : Bytes8) (d : Bool) {p : Nat} (hp : p < 16) :
    ksWord (schedule key d) (2 * p) = cookEven (ksWord (raw key d) (2 * p)) (ksWord (raw key d) (2 * p + 1)) ∧
    ksWord (schedule key d) (2 * p + 1) = cookOdd (ksWord (raw key d) (2 * p)) (ksWord (raw key d) (2 * p + 1)) := by
  rw [schedule_eq]
  exact ⟨ksWord_cookey_pair _ hp (b := 0) (by decide), ksWord_cookey_pair _ hp (b := 1) (by decide)⟩

theorem ksWord_schedule_and (key : Bytes8) (d : Bool) (i : Nat) : ksWord (schedule key d) i &&& 0xC0C0C0C0 = 0 := by
  obtain hi | hi := Nat.lt_or_ge i 32
  · rw [schedule_eq, ksWord_cookey _ hi]
    split_ifs
    · rw [cookEven_eq_packWord, packWord_chunkByte_and]
    · rw [cookOdd_eq_packWord, packWord_chunkByte_and]
  · rw [ksWord_of_le _ hi, BitVec.ofNat_eq_ofNat, BitVec.zero_and]

/-- Settles O44: the two cooked words are the chunks packed as bytes, so their windows are the chunks and the other
bits are 0. -/
theorem cookedWordLayout : Obligations.CookedWordLayout := by
  refine ⟨fun r0 r1 => ⟨?_, ?_, subkey48_cook r0 r1⟩, fun key d p hp => ksWord_schedule_pair key d hp, ksWord_schedule_and,
    window_xor⟩
  · rw [cookEven_eq_packWord, packWord_chunkByte_eq_append]
    rfl
  · rw [cookOdd_eq_packWord, packWord_chunkByte_eq_append]
    rfl

/-! What of the key the schedule depends on (R121, R131): the 56 bits that PC1 selects, and bit 7 of a byte is none of them. -/

theorem pc1_getD_lt (j : Nat) : PC1.getD j 0 / 8 < 8 ∧ PC1.getD j 0 % 8 < 7 := by
  have hall : ∀ l ∈ 0 :: PC1, l / 8 < 8 ∧ l % 8 < 7 := by decide
  refine hall _ ?_
  obtain hj | hj := Nat.lt_or_ge j PC1.length
  · rw [List.getD_eq_getElem _ _ hj]
    exact List.mem_cons_of_mem _ (List.getElem_mem hj)
  · rw [List.getD_eq_default _ _ hj]
    exact List.mem_cons_self

theorem getLsbD_and_0x7F (x : Byte) {m : Nat} (h : m < 7) : (x &&& 0x7F).getLsbD m = x.getLsbD m := by
  rw [BitVec.getLsbD_and]
  interval_cases m <;> simp

/-- A PC1 selection reads one of the low seven bits of a key byte. -/
theorem pc1m_eq_getLsbD (key : Bytes8) (j : Nat) :
    pc1m key j = (byteAt key (PC1.getD j 0 / 8) &&& 0x7F).getLsbD (PC1.getD j 0 % 8) := by
  rw [pc1m, keyBit_eq_getLsbD, getLsbD_and_0x7F _ (pc1_getD_lt j).2]

theorem pc1m_congr {k₁ k₂ : Bytes8} (h : ∀ i < 8, byteAt k₁ i &&& 0x7F = byteAt k₂ i &&& 0x7F) : pc1m k₁ = pc1m k₂ := by
  funext j
  rw [pc1m_eq_getLsbD, pc1m_eq_getLsbD, h _ (pc1_getD_lt j).1]

theorem pc1m_of_zeros {key : Bytes8} (h : ∀ i < 8, byteAt key i = 0x00 ∨ byteAt key i = 0x80) (j : Nat) :
    pc1m key j = false := by
  have hlow : byteAt key (PC1.getD j 0 / 8) &&& 0x7F = 0 := by
    obtain hbyte | hbyte := h _ (pc1_getD_lt j).1 <;> rw [hbyte] <;> rfl
  rw [pc1m_eq_getLsbD, hlow]
  exact BitVec.getLsbD_zero

theorem pc1m_of_ones {key : Bytes8} (h : ∀ i < 8, byteAt key i = 0x7F ∨ byteAt key i = 0xFF) (j : Nat) :
    pc1m key j = true := by
  have hlow : byteAt key (PC1.getD j 0 / 8) &&& 0x7F = 0x7F := by
    obtain hbyte | hbyte := h _ (pc1_getD_lt j).1 <;> rw [hbyte] <;> rfl
  have hones : ∀ m < 7, (0x7F : Byte).getLsbD m = true := by decide
  rw [pc1m_eq_getLsbD, hlow, hones _ (pc1_getD_lt j).2]

/-- The raw schedule depends on the key through its PC1 selection only. -/
theorem raw_congr {k₁ k₂ : Bytes8} (h : pc1m k₁ = pc1m k₂) (d : Bool) : raw k₁ d = raw k₂ d := by
  have hpcr : pcr k₁ = pcr k₂ := by funext i j; rw [pcr, pcr, h]
  refine keySched_ext fun w hw => ?_
  rw [ksWord_raw _ d hw, ksWord_raw _ d hw, rawPair, rawPair, hpcr]

/-- Bit 7 of a key byte does not matter. -/
theorem schedule_congr {k₁ k₂ : Bytes8} (h : ∀ i < 8, byteAt k₁ i &&& 0x7F = byteAt k₂ i &&& 0x7F) (d : Bool) :
    schedule k₁ d = schedule k₂ d := by
  rw [schedule_eq, schedule_eq, raw_congr (pc1m_congr h)]

/-! Where all selected bits are c, rotating and compressing them leaves 24 bits c in every raw word. -/

section Constant
variable {key : Bytes8} {c : Bool} (h : ∀ j, pc1m key j = c)
include h

theorem pcr_of_constant (i : Nat) : pcr key i = fun _ => c := by
  funext j
  rw [pcr]
  simp only [h, ite_self]

theorem ksWord_raw_of_constant (d : Bool) {w : Nat} (hw : w < 32) :
    ksWord (raw key d) w = rawHalf (fun _ => c) 0 := by
  rw [ksWord_raw _ d hw, rawPair, pcr_of_constant h, show rawHalf (fun _ => c) 24 = rawHalf (fun _ => c) 0 from rfl, ite_self]

theorem schedule_of_constant (d : Bool) : schedule key d = Vector.replicate 32 (if c then 0x3f3f3f3f else 0) := by
  refine keySched_ext fun w hw => ?_
  rw [schedule_eq, ksWord_cookey _ hw, ksWord_raw_of_constant h d (by omega), ksWord_raw_of_constant h d (by omega),
    ksWord_of_lt _ hw, Vector.getElem_replicate]
  have hcooked : ∀ c : Bool, cookEven (rawHalf (fun _ => c) 0) (rawHalf (fun _ => c) 0) = (if c then 0x3f3f3f3f else 0) ∧
      cookOdd (rawHalf (fun _ => c) 0) (rawHalf (fun _ => c) 0) = (if c then 0x3f3f3f3f else 0) := by decide
  rw [(hcooked c).1, (hcooked c).2, ite_self]

/-- A schedule of one word repeated is its own reverse, so its transform undoes itself. -/
theorem transform_transform_of_constant (d : Bool) (b : Bytes8) :
    transform (schedule key d) (transform (schedule key d) b) = b := by
  refine transform_transform_of_revPairs_eq ?_ b
  rw [schedule_of_constant h, revPairs_replicate]

end Constant

/-- TRANSFORM asks for ksv, whatever the value of KS (R206). -/
theorem exec_transform_of_no_schedule {s : State} (hs : s.pend = none) (hksv : s.ksv = false) :
    exec .transform s = .next { s with done := true, err := 2 } := by
  have hreject : accepted .transform (clearStatus s) = rejectWith .noSchedule (clearStatus s) := by
    simp [accepted, issueTransform, hksv]
  rw [exec_of_idle _ hs, hreject]
  rfl

/-- Settles O45: the bytes named make every bit that PC1 selects 0, or every one 1; the other clauses are that bit 7 is never
selected, and that TRANSFORM asks for ksv. -/
theorem weakKeySchedules : Obligations.WeakKeySchedules := by
  refine ⟨fun key d h i => ?_, fun key d h => ?_, fun key d h => ?_, fun key b d h => ?_, fun _ _ d h => schedule_congr h d,
    fun _ hs _ hksv => ?_⟩
  · obtain hi | hi := Nat.lt_or_ge i 32
    · rw [ksWord_raw_of_constant (pc1m_of_zeros h) d hi]
      rfl
    · exact ksWord_of_le _ hi
  · exact schedule_of_constant (pc1m_of_zeros h) d
  · exact schedule_of_constant (pc1m_of_ones h) d
  · obtain h | h := h
    · exact transform_transform_of_constant (pc1m_of_zeros h) d b
    · exact transform_transform_of_constant (pc1m_of_ones h) d b
  · exact exec_transform_of_no_schedule hs hksv

end Sys2Proof.Machine
end

section
/-! The packer's two identities (spec/42_packing.md R142), each proved above as a lemma about `pack` and `unpack`. -/

namespace Sys2Proof.Machine

/-- Settles O46: a packed word is its four bytes side by side, so cutting it at the byte boundaries and joining the
bytes again undo each other. -/
theorem packUnpackIdentities : Obligations.PackUnpackIdentities :=
  ⟨unpack_pack, pack_unpack⟩

end Sys2Proof.Machine
end

section
/-! The permutation unit (spec/43_permutation.md R150-R157): what a swap step does to each bit, linearity over XOR, and the
table forms, which linearity brings down to the 64 single bits of a block. -/

namespace Sys2Proof.Machine

/-! The swap step bit by bit (R150). -/

theorem getLsbD_swapmove_snd (a b m : Word) (n i : Nat) :
    (swapmove a b n m).2.getLsbD i = if m.getLsbD i then a.getLsbD (i + n) else b.getLsbD i := by
  simp only [swapmove, BitVec.getLsbD_xor, BitVec.getLsbD_and, BitVec.getLsbD_ushiftRight, Nat.add_comm n i]
  cases m.getLsbD i <;> simp [Bool.xor_left_comm]

theorem getLsbD_swapmove_fst (a b m : Word) {n i : Nat} (h : i + n < 32) :
    (swapmove a b n m).1.getLsbD (i + n) = if m.getLsbD i then b.getLsbD i else a.getLsbD (i + n) := by
  simp only [swapmove, BitVec.getLsbD_xor, BitVec.getLsbD_shiftLeft, BitVec.getLsbD_and, BitVec.getLsbD_ushiftRight, h,
    Nat.add_sub_cancel, Nat.add_comm n i, Nat.not_lt.2 (Nat.le_add_left n i)]
  cases m.getLsbD i <;> simp

/-- A mask that loses no bit when shifted has its bits where the shift can reach. -/
theorem add_lt_of_getLsbD_mask {m : Word} {n i : Nat} (h : (m <<< n) >>> n = m) (hi : m.getLsbD i = true) : i + n < 32 := by
  rw [← h, BitVec.getLsbD_ushiftRight, BitVec.getLsbD_shiftLeft] at hi
  grind

/-- Settles O47: the involution is `swapmove_swapmove`, and where the mask has a bit each word gets the other's. -/
theorem swapStepIsInvolution : Obligations.SwapStepIsInvolution := by
  refine ⟨fun a b m n _ h => swapmove_swapmove h a b, fun a b m n i _ h hi => ⟨?_, ?_⟩, by decide⟩
  · rw [getLsbD_swapmove_snd, if_pos hi]
  · rw [getLsbD_swapmove_fst a b m (add_lt_of_getLsbD_mask h hi), if_pos hi]

/-- Settles O50, by `fpw_ipw` and `ipw_fpw`; one block shows that the halves must be exchanged. -/
theorem permutationsUndoEachOther : Obligations.PermutationsUndoEachOther := by
  refine ⟨fpw_ipw, ipw_fpw, 0x80000000, 0, ?_⟩
  decide

/-! Linearity over XOR (R157): each step of the two sequences is linear. -/

theorem rotl_xor (x y : Word) (n : Nat) : rotl (x ^^^ y) n = rotl x n ^^^ rotl y n := by
  refine BitVec.eq_of_getLsbD_eq fun i hi => ?_
  simp only [rotl, BitVec.getLsbD_or, BitVec.getLsbD_xor, BitVec.getLsbD_shiftLeft, BitVec.getLsbD_ushiftRight]
  by_cases hin : i < n
  · simp [hin]
  · have hbeyond : 32 ≤ 32 - n + i := by omega
    simp [hin, hi, BitVec.getLsbD_of_ge, hbeyond]

theorem rotr_xor (x y : Word) (n : Nat) : rotr (x ^^^ y) n = rotr x n ^^^ rotr y n := rotl_xor x y _

theorem xor_and_distrib {w : Nat} (x y z : BitVec w) : (x ^^^ y) &&& z = (x &&& z) ^^^ (y &&& z) := by
  ext i hi
  simp only [BitVec.getElem_and, BitVec.getElem_xor, Bool.and_xor_distrib_right]

theorem swapmove_xor (a b c d : Word) (n : Nat) (m : Word) :
    swapmove (a ^^^ c) (b ^^^ d) n m =
      ((swapmove a b n m).1 ^^^ (swapmove c d n m).1, (swapmove a b n m).2 ^^^ (swapmove c d n m).2) := by
  have hdiff : (((a ^^^ c) >>> n) ^^^ (b ^^^ d)) &&& m = (((a >>> n) ^^^ b) &&& m) ^^^ (((c >>> n) ^^^ d) &&& m) := by
    rw [BitVec.ushiftRight_xor_distrib, ← xor_and_distrib]
    ac_rfl
  simp only [swapmove, hdiff, BitVec.shiftLeft_xor_distrib, Prod.mk.injEq]
  constructor <;> ac_rfl

theorem ipw_xor (a b c d : Word) :
    ipw (a ^^^ c) (b ^^^ d) = ((ipw a b).1 ^^^ (ipw c d).1, (ipw a b).2 ^^^ (ipw c d).2) := by
  simp only [ipw, swapmove_xor, rotl_xor]

theorem fpw_xor (a b c d : Word) :
    fpw (a ^^^ c) (b ^^^ d) = ((fpw a b).1 ^^^ (fpw c d).1, (fpw a b).2 ^^^ (fpw c d).2) := by
  simp only [fpw, swapmove_xor, rotr_xor]

theorem permute_xor {n : Nat} (table : List Nat) (m : Nat) (x y : BitVec n) :
    permute table m (x ^^^ y) = permute table m x ^^^ permute table m y := by
  refine BitVec.eq_of_getLsbD_eq fun i hi => ?_
  simp only [BitVec.getLsbD_xor, getLsbD_permute, if_pos hi, bitAt]

/-! Where a single bit goes: IP moves position p to position FP[p], and FP moves it to IP[p] (R112); position p is
bit 64 - p (R10). -/

/-- The two words of a 64-bit value. -/
def halves (x : BitVec 64) : Word × Word := (x.extractLsb' 32 32, x.extractLsb' 0 32)

theorem halves_fst_append_snd (x : BitVec 64) : (halves x).1 ++ (halves x).2 = x := by
  rw [halves, BitVec.extractLsb'_append_extractLsb'_eq_extractLsb' (show 32 = 0 + 32 from rfl), BitVec.extractLsb'_eq_self]

/-- The bit of the two result words, joined, that bit i of the block goes to in IPW: by the table, then one place left within
its half. -/
def ipwBit (i : Nat) : Nat :=
  let b := 64 - FP.getD (63 - i) 0
  b / 32 * 32 + (b + 1) % 32

/-- The bit of the two output words, joined, that bit i of the joined halves goes to in FPW: one place right within its half,
into the other half, then by the table. -/
def fpwBit (i : Nat) : Nat :=
  64 - IP.getD (63 - ((1 - i / 32) * 32 + (i + 31) % 32)) 0

theorem ipw_single_bit : ∀ i < 64, ipwBit i < 64 ∧
    ipw ((1#64 <<< i).extractLsb' 32 32) ((1#64 <<< i).extractLsb' 0 32) = halves (1#64 <<< ipwBit i) := by
  decide +kernel

theorem fpw_single_bit : ∀ i < 64, fpwBit i < 64 ∧
    fpw ((1#64 <<< i).extractLsb' 32 32) ((1#64 <<< i).extractLsb' 0 32) = halves (1#64 <<< fpwBit i) := by
  decide +kernel

/-- Settles O51: linearity is that of the swap steps and rotations, and the tables say where a single bit goes. -/
theorem permutationsAreLinear : Obligations.PermutationsAreLinear := by
  refine ⟨fun a b c d => ⟨ipw_xor a b c d, fpw_xor a b c d⟩, by decide, by decide, fun i hi => ?_, fun i hi => ?_,
    by decide, by decide⟩
  · obtain ⟨hlt, hbit⟩ := ipw_single_bit i hi
    refine ⟨ipwBit i, hlt, ?_⟩
    rintro _ _ rfl rfl
    rw [hbit, halves_fst_append_snd]
  · obtain ⟨hlt, hbit⟩ := fpw_single_bit i hi
    refine ⟨fpwBit i, hlt, ?_⟩
    rintro _ _ rfl rfl
    rw [hbit, halves_fst_append_snd]

/-! The table forms (R152, R155). -/

theorem setWidth_succ_eq_xor {n : Nat} (x : BitVec n) (k : Nat) :
    (x.setWidth (k + 1)).setWidth n = (x.setWidth k).setWidth n ^^^ (if x.getLsbD k then 1#n <<< k else 0) := by
  rw [← BitVec.twoPow_eq, BitVec.ofNat_eq_ofNat, ← BitVec.and_twoPow]
  refine BitVec.eq_of_getLsbD_eq fun i hi => ?_
  simp only [BitVec.getLsbD_xor, BitVec.getLsbD_setWidth, BitVec.getLsbD_and, BitVec.getLsbD_twoPow]
  grind

/-- What holds of 0 and of the single bits, and is kept by XOR, holds of every value. -/
theorem xor_induction {n : Nat} {p : BitVec n → Prop} (zero : p 0) (bit : ∀ i < n, p (1#n <<< i))
    (xor : ∀ x y, p x → p y → p (x ^^^ y)) (x : BitVec n) : p x := by
  have hlow : ∀ k ≤ n, p ((x.setWidth k).setWidth n) := by
    intro k hk
    induction k with
    | zero => rwa [BitVec.of_length_zero (x := x.setWidth 0), BitVec.setWidth_zero]
    | succ k ih =>
      rw [setWidth_succ_eq_xor]
      refine xor _ _ (ih (by omega)) ?_
      split_ifs
      · exact bit k hk
      · exact zero
  simpa using hlow n le_rfl

/-- The table form of the initial permutation. -/
def ipwByTable (x : BitVec 64) : Word × Word :=
  (rotl ((permIP x).extractLsb' 32 32) 1, rotl ((permIP x).extractLsb' 0 32) 1)

theorem ipwByTable_xor (x y : BitVec 64) :
    ipwByTable (x ^^^ y) = ((ipwByTable x).1 ^^^ (ipwByTable y).1, (ipwByTable x).2 ^^^ (ipwByTable y).2) := by
  simp only [ipwByTable, permIP, permute_xor, BitVec.extractLsb'_xor, rotl_xor]

theorem ipwByTable_single_bit : ∀ i < 64, ipwByTable (1#64 <<< i) = halves (1#64 <<< ipwBit i) := by decide +kernel

/-- Both forms are linear and take each single bit to the same place. -/
theorem ipw_halves_eq_ipwByTable (x : BitVec 64) : ipw (x.extractLsb' 32 32) (x.extractLsb' 0 32) = ipwByTable x := by
  induction x using xor_induction with
  | zero => decide +kernel
  | bit i hi => rw [(ipw_single_bit i hi).2, ipwByTable_single_bit i hi]
  | xor x y hx hy => rw [BitVec.extractLsb'_xor, BitVec.extractLsb'_xor, ipw_xor, ipwByTable_xor, hx, hy]

theorem ipw_eq_ipwByTable (w0 w1 : Word) : ipw w0 w1 = ipwByTable (w0 ++ w1) := by
  rw [← ipw_halves_eq_ipwByTable, BitVec.extractLsb'_append_eq_left, BitVec.extractLsb'_append_eq_right]

theorem permIP_eq_of_ipwByTable_eq {x : BitVec 64} {l r : Word} (h : ipwByTable x = (l, r)) :
    permIP x = rotr l 1 ++ rotr r 1 := by
  obtain ⟨rfl, rfl⟩ := Prod.mk.inj h
  rw [rotr_rotl, rotr_rotl]
  exact (halves_fst_append_snd (permIP x)).symm

/-- Settles O48: the two forms are linear and agree on the single bits, so they agree on every block. -/
theorem initialPermutationTableForm : Obligations.InitialPermutationTableForm :=
  ⟨ipw_eq_ipwByTable, by decide +kernel, by decide⟩

/-- Settles O49: the initial permutation takes the output of the final one to the exchanged halves, so by its table form the
table IP takes it to those halves rotated back, and the table FP undoes the table IP. -/
theorem finalPermutationTableForm : Obligations.FinalPermutationTableForm := by
  intro l r
  have hIP : permIP ((fpw l r).1 ++ (fpw l r).2) = rotr r 1 ++ rotr l 1 :=
    permIP_eq_of_ipwByTable_eq (by rw [← ipw_eq_ipwByTable, ipw_fpw])
  rw [← hIP]
  exact (permute_permute_of_undoes ip_undoes_fp _).symm

end Sys2Proof.Machine
end

section
/-! The round function (spec/44_rounds.md R171, R172) against the DES round function: each of the eight windows is a group of the
expansion XORed with a chunk of the subkey, and the lookups in the SP tables are P of the boxes, rotated left one bit. -/

namespace Sys2Proof.Machine

/-- Settles O54, by the Feistel structure: under the reversed pairs each double-round undoes its counterpart, and the decrypt
schedule is the encrypt schedule reversed. -/
theorem reversedScheduleInvertsTransform : Obligations.ReversedScheduleInvertsTransform :=
  ⟨transform_revPairs_transform, schedule_true⟩

/-! The eight windows. -/

/-- Window k of R172: the odd ones are cut from a, the even ones from b (R171). -/
def windowOf (k : Nat) (a b : Word) : BitVec 6 :=
  if k % 2 = 1 then window a (24 - 4 * (k - 1)) else window b (24 - 4 * (k - 2))

/-- The k-th 6-bit group of 48 bits. -/
def sixBits (k : Nat) (y : BitVec 48) : BitVec 6 := y.extractLsb' (48 - 6 * k) 6

theorem windowOf_xor (k : Nat) (a b c d : Word) : windowOf k (a ^^^ c) (b ^^^ d) = windowOf k a b ^^^ windowOf k c d := by
  unfold windowOf
  split_ifs <;> exact window_xor _ _ _

theorem getLsbD_rotr (x : Word) {n i : Nat} (hn : 0 < n) (hn32 : n < 32) (hi : i < 32) :
    (rotr x n).getLsbD i = x.getLsbD ((i + n) % 32) := by
  rw [rotr_eq_rotl, Nat.mod_eq_of_lt (by omega), rotl_eq_rotateLeft _ (by omega), BitVec.getLsbD_rotateLeft,
    Nat.mod_eq_of_lt (by omega)]
  by_cases hin : i < 32 - n
  · rw [decide_eq_true hin, cond_true, Nat.mod_eq_of_lt (by omega)]
    congr 1
    omega
  · rw [decide_eq_false hin, cond_false, decide_eq_true hi, Bool.true_and]
    congr 1
    omega

/-- The entries of E, counted as bits of the half rotated left by one, are those of the windows: the overlap of neighbouring
groups is the overlap of neighbouring windows. -/
theorem expansion_bit_eq_window_bit : ∀ k ∈ Finset.Icc 1 8, ∀ b < 6,
    32 - E.getD (47 - (48 - 6 * k + b)) 0 < 32 ∧
    (32 - E.getD (47 - (48 - 6 * k + b)) 0 + 1) % 32 =
      if k % 2 = 1 then (24 - 4 * (k - 1) + b + 4) % 32 else 24 - 4 * (k - 2) + b := by
  decide

theorem sixBits_expandE_rotr {k : Nat} (hk : k ∈ Finset.Icc 1 8) (x : Word) :
    sixBits k (expandE (rotr x 1)) = windowOf k (rotr x 4) x := by
  obtain ⟨hk1, hk8⟩ := Finset.mem_Icc.1 hk
  refine BitVec.eq_of_getLsbD_eq fun b hb => ?_
  obtain ⟨hlt, hbit⟩ := expansion_bit_eq_window_bit k hk b hb
  rw [sixBits, BitVec.getLsbD_extractLsb', decide_eq_true hb, Bool.true_and, expandE, getLsbD_permute, if_pos (by omega), bitAt,
    getLsbD_rotr x (by decide) (by decide) hlt, hbit, windowOf]
  split_ifs
  · rw [window, BitVec.getLsbD_extractLsb', decide_eq_true hb, Bool.true_and,
      getLsbD_rotr x (by decide) (by decide) (by omega)]
  · rw [window, BitVec.getLsbD_extractLsb', decide_eq_true hb, Bool.true_and]

theorem sixBits_subkey48 {k : Nat} (hk : k ∈ Finset.Icc 1 8) (ka kb : Word) : sixBits k (subkey48 ka kb) = windowOf k ka kb := by
  obtain ⟨hk1, hk8⟩ := Finset.mem_Icc.1 hk
  rw [sixBits, subkey48]
  interval_cases k <;>
    simp (disch := decide) only [BitVec.extractLsb'_append_eq_of_le, BitVec.extractLsb'_append_eq_of_add_le,
      BitVec.extractLsb'_eq_self, Nat.reduceMul, Nat.reduceSub] <;> rfl

/-- Window k holds the k-th group of E of the unrotated half, XORed with chunk k of the subkey. -/
theorem sixBits_expandE_xor_subkey48 {k : Nat} (hk : k ∈ Finset.Icc 1 8) (x ka kb : Word) :
    sixBits k (expandE (rotr x 1) ^^^ subkey48 ka kb) = windowOf k (rotr x 4 ^^^ ka) (x ^^^ kb) := by
  rw [windowOf_xor, ← sixBits_expandE_rotr hk, ← sixBits_subkey48 hk]
  exact BitVec.extractLsb'_xor

/-! The lookups. -/

theorem lookupOdd_or_lookupEven (a b : Word) :
    lookupOdd a ||| lookupEven b =
      (sp 1 (windowOf 1 a b) ||| sp 3 (windowOf 3 a b) ||| sp 5 (windowOf 5 a b) ||| sp 7 (windowOf 7 a b)) |||
      (sp 2 (windowOf 2 a b) ||| sp 4 (windowOf 4 a b) ||| sp 6 (windowOf 6 a b) ||| sp 8 (windowOf 8 a b)) := rfl

theorem rotl_or (x y : Word) {n : Nat} : rotl (x ||| y) n = rotl x n ||| rotl y n := by
  simp only [rotl, BitVec.shiftLeft_or_distrib, BitVec.ushiftRight_or_distrib]
  ac_rfl

theorem pword_or (x y : Word) : pword (x ||| y) = pword x ||| pword y := by
  refine BitVec.eq_of_getLsbD_eq fun i hi => ?_
  simp only [pword, BitVec.getLsbD_or, getLsbD_permute, if_pos hi, bitAt]

theorem setWidth_ofNat_nibble (y : Fin 16) : (BitVec.ofNat 4 y).setWidth 32 = BitVec.ofNat 32 y := by
  revert y
  decide

/-- A lookup is the box's output at its place, through P and the rotation (R108). -/
theorem sp_sixBits {k : Nat} (hk : k ∈ Finset.Icc 1 8) (y : BitVec 48) :
    sp k (sixBits k y) = rotl (pword ((desSbox k y).setWidth 32 <<< (32 - 4 * k))) 1 := by
  obtain ⟨v, hbox, hsp⟩ := sp_eq_spread_of_sboxValue k hk (sixBits k y)
  rw [hsp, spread, desSbox, ← sixBits, hbox, setWidth_ofNat_nibble]

/-- The eight box outputs side by side are their OR, each at its place. -/
theorem desSboxes_eq_or (y : BitVec 48) :
    desSboxes y =
      (desSbox 1 y).setWidth 32 <<< 28 ||| (desSbox 2 y).setWidth 32 <<< 24 ||| (desSbox 3 y).setWidth 32 <<< 20 |||
      (desSbox 4 y).setWidth 32 <<< 16 ||| (desSbox 5 y).setWidth 32 <<< 12 ||| (desSbox 6 y).setWidth 32 <<< 8 |||
      (desSbox 7 y).setWidth 32 <<< 4 ||| (desSbox 8 y).setWidth 32 <<< 0 := by
  rw [← BitVec.setWidth_eq (desSboxes y), desSboxes,
    BitVec.setWidth_append_append_append_eq_shiftLeft_setWidth_or,
    BitVec.setWidth_append_append_append_eq_shiftLeft_setWidth_or, BitVec.setWidth_append_eq_shiftLeft_setWidth_or]
  simp only [BitVec.shiftLeft_or_distrib, ← BitVec.shiftLeft_add,
    Nat.reduceAdd, BitVec.shiftLeft_zero]

theorem rotl_pword_desSboxes (y : BitVec 48) :
    rotl (pword (desSboxes y)) 1 =
      sp 1 (sixBits 1 y) ||| sp 2 (sixBits 2 y) ||| sp 3 (sixBits 3 y) ||| sp 4 (sixBits 4 y) |||
      sp 5 (sixBits 5 y) ||| sp 6 (sixBits 6 y) ||| sp 7 (sixBits 7 y) ||| sp 8 (sixBits 8 y) := by
  simp (disch := decide) only [desSboxes_eq_or, pword_or, rotl_or, sp_sixBits, Nat.reduceMul, Nat.reduceSub]

theorem roundF_eq_rotl_desF (x ka kb : Word) : roundF x ka kb = rotl (desF (rotr x 1) (subkey48 ka kb)) 1 := by
  rw [desF, rotl_pword_desSboxes, roundF, lookupOdd_or_lookupEven]
  simp (disch := decide) only [sixBits_expandE_xor_subkey48]
  ac_rfl

/-- Settles O52: lookup for lookup, the windows are the groups that go into the boxes, and the tables hold the boxes' outputs
already permuted and rotated. -/
theorem roundFunctionIsDesRoundFunction : Obligations.RoundFunctionIsDesRoundFunction :=
  ⟨roundF_eq_rotl_desF, fun x ka kb _ hk hk8 => sixBits_expandE_xor_subkey48 (Finset.mem_Icc.2 ⟨hk, hk8⟩) x ka kb⟩

end Sys2Proof.Machine
end

section
/-! The block transform as DES (spec/44_rounds.md R173-R176): for any schedule it is the textbook cipher, IP, 16 rounds and FP, under
the 16 subkeys that the schedule's pairs hold. -/

namespace Sys2Proof.Machine

/-- The subkey that half-round h reads (R174). -/
def subkey (ks : KeySched) (h : Nat) : BitVec 48 := subkey48 (ksWord ks (2 * h)) (ksWord ks (2 * h + 1))

/-- The 16 subkeys of a schedule, in the order of the half-rounds. -/
def subkeys (ks : KeySched) : List (BitVec 48) := (List.range 16).map (subkey ks)

/-- The two halves in the rotated domain (R152). -/
def rotated (lr : Word × Word) : Word × Word := (rotl lr.1 1, rotl lr.2 1)

/-- A double-round is two DES rounds, whose two exchanges of the halves cancel. -/
theorem doubleRound_rotated (ks : KeySched) (k : Nat) (lr : Word × Word) :
    doubleRound ks k (rotated lr) = rotated (desRound (desRound lr (subkey ks (2 * k))) (subkey ks (2 * k + 1))) := by
  have hA : subkey ks (2 * k) = subkey48 (ksWord ks (4 * k)) (ksWord ks (4 * k + 1)) := by
    rw [subkey, show 2 * (2 * k) = 4 * k by omega]
  have hB : subkey ks (2 * k + 1) = subkey48 (ksWord ks (4 * k + 2)) (ksWord ks (4 * k + 3)) := by
    rw [subkey, show 2 * (2 * k + 1) = 4 * k + 2 by omega]
  simp only [doubleRound, rotated, desRound, hA, hB, roundF_eq_rotl_desF, rotr_rotl, ← rotl_xor]

theorem foldl_doubleRound_rotated (ks : KeySched) (n : Nat) (lr : Word × Word) :
    (List.range n).foldl (fun acc k => doubleRound ks k acc) (rotated lr) =
      rotated (((List.range (2 * n)).map (subkey ks)).foldl desRound lr) := by
  induction n with
  | zero => rfl
  | succ n ih =>
    rw [Nat.mul_succ, List.range_succ, List.range_succ, List.range_succ]
    simp only [List.map_append, List.foldl_append, ih, List.map_cons, List.map_nil, List.foldl_cons, List.foldl_nil,
      doubleRound_rotated]

theorem rounds_rotated (ks : KeySched) (lr : Word × Word) : rounds ks (rotated lr) = rotated ((subkeys ks).foldl desRound lr) :=
  foldl_doubleRound_rotated ks 8 lr

theorem unpack_eq_bytes64 (w0 w1 : Word) : unpack w0 w1 = bytes64 (w0 ++ w1) := by
  rw [bytes64, BitVec.extractLsb'_append_eq_left, BitVec.extractLsb'_append_eq_right]

/-- The two permutations are IP into the rotated domain and FP out of it, so what stands between them is DES. -/
theorem transform_eq_desBlock (ks : KeySched) (b : Bytes8) : transform ks b = bytes64 (desBlock (subkeys ks) (block64 b)) := by
  have hIP : ipw (pack b).1 (pack b).2 = rotated (halves (permIP (block64 b))) := ipw_eq_ipwByTable _ _
  have hFP (lr : Word × Word) : (fpw (rotated lr).1 (rotated lr).2).1 ++ (fpw (rotated lr).1 (rotated lr).2).2 =
      permFP (lr.2 ++ lr.1) := by
    rw [finalPermutationTableForm, rotated, rotr_rotl, rotr_rotl]
  rw [transform_eq, hIP, rounds_rotated, unpack_eq_bytes64, hFP]
  rfl

end Sys2Proof.Machine
end

section
/-! The subkeys of a loaded schedule (spec/41_key_schedule.md R121-R128), bit by bit. Bit j here is the j-th from the most
significant end, as PC2 counts. -/

namespace Sys2Proof.Machine

theorem getLsbD_BIGBYTE : ∀ i < 24, ∀ j < 24, (BIGBYTE j).getLsbD (23 - i) = decide (i = j) := by decide

/-- ORing in the masks of the selected places of a list sets just the bits of those places. -/
theorem getLsbD_foldl_or_BIGBYTE (p : Nat → Bool) {i : Nat} (hi : i < 24) {l : List Nat} (hl : ∀ j ∈ l, j < 24) (a : Word) :
    (l.foldl (fun r j => if p j then r ||| BIGBYTE j else r) a).getLsbD (23 - i) =
      (a.getLsbD (23 - i) || (decide (i ∈ l) && p i)) := by
  induction l generalizing a with
  | nil => simp
  | cons j l ih =>
    obtain ⟨hj, hl⟩ := List.forall_mem_cons.1 hl
    rw [List.foldl_cons, ih hl]
    by_cases hij : i = j
    · subst hij
      by_cases hp : p i <;> simp [hp, getLsbD_BIGBYTE i hi i hi]
    · by_cases hp : p j <;> simp [hp, getLsbD_BIGBYTE i hi j hj, hij]

theorem getLsbD_rawHalf (bits : Nat → Bool) (off : Nat) {j : Nat} (hj : j < 24) :
    (rawHalf bits off).getLsbD (23 - j) = bits (PC2.getD (j + off) 0) := by
  rw [rawHalf, getLsbD_foldl_or_BIGBYTE (fun j => bits (PC2.getD (j + off) 0)) hj (by simp)]
  simp [hj]

theorem getMsbD_subkey_schedule (key : Bytes8) (d : Bool) {h j : Nat} (hh : h < 16) (hj : j < 48) :
    (subkey (schedule key d) h).getMsbD j = pcr key (roundOfSlot d h) (PC2.getD j 0) := by
  have hlow (r : Word) {i : Nat} (hi : i < 24) : (r.extractLsb' 0 24).getMsbD i = r.getLsbD (23 - i) := by
    simp [BitVec.getMsbD_eq_getLsbD, hi, show 23 - i < 24 by omega]
  obtain ⟨hEven, hOdd⟩ := ksWord_schedule_pair key d hh
  have hC : ksWord (raw key d) (2 * h) = (rawPair key (roundOfSlot d h)).1 := ksWord_raw_pair key d hh (b := 0) (by decide)
  have hD : ksWord (raw key d) (2 * h + 1) = (rawPair key (roundOfSlot d h)).2 := ksWord_raw_pair key d hh (b := 1) (by decide)
  rw [subkey, hEven, hOdd, subkey48_cook, hC, hD, rawPair, BitVec.getMsbD_append]
  split_ifs with h24
  · rw [hlow _ (by omega), getLsbD_rawHalf _ _ (by omega), Nat.sub_add_cancel h24]
  · rw [hlow _ (by omega), getLsbD_rawHalf _ _ (by omega), Nat.add_zero]

/-- Two lists of subkeys are equal when the subkeys of every half-round are. -/
theorem subkeys_eq_map {ks : KeySched} {f : Nat → BitVec 48} (h : ∀ i < 16, subkey ks i = f i) :
    subkeys ks = (List.range 16).map f :=
  List.map_congr_left fun i hi => h i (List.mem_range.1 hi)

theorem pc1_getD_lt_64 (j : Nat) : PC1.getD j 0 < 64 := by
  have := (pc1_getD_lt j).1
  omega

theorem pc2_getD_lt (j : Nat) : PC2.getD j 0 < 56 := by
  have hall : ∀ l ∈ PC2, l < 56 := by decide
  obtain hj | hj := Nat.lt_or_ge j PC2.length
  · rw [List.getD_eq_getElem _ _ hj]
    exact hall _ (List.getElem_mem hj)
  · rw [List.getD_eq_default _ _ hj]
    decide

/-! A block as a 64-bit value (R10): bit l of the value is bit l % 8 of byte l / 8, both from the most significant end. -/

theorem getMsbD_block64 (b : Bytes8) {l : Nat} (hl : l < 64) :
    (block64 b).getMsbD l = (byteAt b (l / 8)).getMsbD (l % 8) := by
  obtain ⟨q, r, hq, hr, rfl⟩ : ∃ q r, q < 8 ∧ r < 8 ∧ l = 8 * q + r := ⟨l / 8, l % 8, by omega, by omega, by omega⟩
  rw [show (8 * q + r) / 8 = q by omega, show (8 * q + r) % 8 = r by omega, byteAt_of_lt b hq, block64, pack, packWord_eq_append,
    packWord_eq_append]
  interval_cases q <;>
    simp (disch := omega) only [BitVec.getMsbD_append, if_pos, if_neg] <;> congr 1 <;> omega

theorem bytes64_block64 (b : Bytes8) : bytes64 (block64 b) = b := by
  rw [block64, ← unpack_eq_bytes64, unpack_pack]

theorem block64_bytes64 (x : BitVec 64) : block64 (bytes64 x) = x := by
  rw [block64, bytes64, pack_unpack]
  exact halves_fst_append_snd x

end Sys2Proof.Machine
end

section
/-! Equivalence with FIPS 46 DES (spec/44_rounds.md R181): the subkeys of the encrypt schedule are the round keys of the key with the
bits of each byte reversed, and those of the decrypt schedule are the same in reverse order. -/

namespace Sys2Proof.Machine

/-- A table that counts positions from one, seen from zero. -/
theorem getMsbD_permute_succ {n m : Nat} {table : List Nat} {j : Nat} (hj : j < m) (hlen : table.length = m)
    (hn : table.getD j 0 < n) (x : BitVec n) :
    (permute (table.map (· + 1)) m x).getMsbD j = x.getMsbD (table.getD j 0) := by
  rw [BitVec.getMsbD_eq_getLsbD, BitVec.getMsbD_eq_getLsbD, decide_eq_true hj, decide_eq_true hn, getLsbD_permute,
    if_pos (by omega), bitAt, show m - 1 - (m - 1 - j) = j by omega, List.getD_eq_getElem _ _ (by simpa [hlen] using hj),
    List.getElem_map, List.getD_eq_getElem _ _ (hlen ▸ hj), Bool.true_and, Bool.true_and, Nat.add_comm, Nat.sub_sub]

theorem getMsbD_block64_rev8 (key : Bytes8) {l : Nat} (hl : l < 64) : (block64 (rev8 key)).getMsbD l = keyBit key l := by
  have hbyte : byteAt (rev8 key) (l / 8) = (byteAt key (l / 8)).reverse := by
    rw [byteAt_of_lt _ (by omega), byteAt_of_lt _ (by omega), rev8, Vector.getElem_ofFn]
    rfl
  rw [getMsbD_block64 _ hl, hbyte, BitVec.getMsbD_reverse, keyBit_eq_getLsbD]

/-- The 56 key bits that PC-1 selects, C and D side by side. -/
def selectedBits (key : Bytes8) : BitVec 56 := permute desPC1 56 (block64 (rev8 key))

theorem getMsbD_selectedBits (key : Bytes8) {j : Nat} (hj : j < 56) : (selectedBits key).getMsbD j = pc1m key j := by
  rw [selectedBits, desPC1, getMsbD_permute_succ hj rfl (pc1_getD_lt_64 j), getMsbD_block64_rev8 key (pc1_getD_lt_64 j), pc1m]

theorem rotateLeft_rotateLeft {w : Nat} (x : BitVec w) (m n : Nat) : (x.rotateLeft m).rotateLeft n = x.rotateLeft (m + n) := by
  refine BitVec.eq_of_getMsbD_eq fun i hi => ?_
  have hmod : (n + i) % w < w := Nat.mod_lt _ (by omega)
  simp only [BitVec.getMsbD_rotateLeft, hi, hmod, decide_true, Bool.true_and, Nat.add_mod_mod, Nat.add_assoc]

theorem rotateLeft_zero {w : Nat} (x : BitVec w) : x.rotateLeft 0 = x := by
  refine BitVec.eq_of_getMsbD_eq fun i hi => ?_
  rw [BitVec.getMsbD_rotateLeft, decide_eq_true hi, Bool.true_and, Nat.zero_add, Nat.mod_eq_of_lt hi]

/-- C and D, each rotated left by t, side by side. -/
def rotateHalves (cd : BitVec 56) (t : Nat) : BitVec 56 :=
  (cd.extractLsb' 28 28).rotateLeft t ++ (cd.extractLsb' 0 28).rotateLeft t

/-- The round keys, each from C and D themselves: the rotation of a round is the sum of the shifts up to it. -/
theorem desKeysFrom_rotateLeft (cd : BitVec 56) (ns : List Nat) (t : Nat) :
    desKeysFrom ns ((cd.extractLsb' 28 28).rotateLeft t) ((cd.extractLsb' 0 28).rotateLeft t) =
      (ns.scanl (· + ·) t).tail.map fun t => permute desPC2 48 (rotateHalves cd t) := by
  induction ns generalizing t with
  | nil => rfl
  | cons n ns ih =>
    rw [desKeysFrom, rotateLeft_rotateLeft, rotateLeft_rotateLeft, ih, List.scanl_cons, List.tail_cons]
    cases ns <;> simp only [List.scanl_nil, List.scanl_cons, List.tail_cons, List.map_cons, rotateHalves]

theorem totrot_eq_sums_of_shifts : (desShifts.scanl (· + ·) 0).tail = (List.range 16).map (TOTROT.getD · 0) := by decide

theorem desKeys_eq (key : Bytes8) :
    desKeys (block64 (rev8 key)) =
      (List.range 16).map fun i => permute desPC2 48 (rotateHalves (selectedBits key) (TOTROT.getD i 0)) := by
  have h := desKeysFrom_rotateLeft (selectedBits key) desShifts 0
  rw [rotateLeft_zero, rotateLeft_zero, totrot_eq_sums_of_shifts, List.map_map] at h
  rw [desKeys, ← selectedBits, h]
  rfl

theorem getMsbD_rotateHalves_selectedBits (key : Bytes8) (i : Nat) {j : Nat} (hj : j < 56) :
    (rotateHalves (selectedBits key) (TOTROT.getD i 0)).getMsbD j = pcr key i j := by
  have hC {j : Nat} (hj : j < 28) : ((selectedBits key).extractLsb' 28 28).getMsbD j = pc1m key j := by
    rw [← getMsbD_selectedBits key (by omega), BitVec.getMsbD_extractLsb']
    grind
  have hD {j : Nat} (hj : j < 28) : ((selectedBits key).extractLsb' 0 28).getMsbD j = pc1m key (28 + j) := by
    rw [← getMsbD_selectedBits key (by omega), BitVec.getMsbD_extractLsb']
    grind
  rw [rotateHalves, BitVec.getMsbD_append, BitVec.getMsbD_rotateLeft, BitVec.getMsbD_rotateLeft, pcr]
  by_cases h28 : j < 28
  · rw [if_neg (by omega), if_pos h28, decide_eq_true h28, Bool.true_and, hC (Nat.mod_lt _ (by decide)), Nat.add_comm]
  · rw [if_pos (by omega), if_neg h28, decide_eq_true (by omega), Bool.true_and, hD (Nat.mod_lt _ (by decide)),
      Nat.add_comm (j - 28)]

/-- Compressing the rotated halves by PC-2 reads the bits that the subkey's words were made of. -/
theorem subkey_schedule_false (key : Bytes8) {h : Nat} (hh : h < 16) :
    subkey (schedule key false) h = permute desPC2 48 (rotateHalves (selectedBits key) (TOTROT.getD h 0)) := by
  refine BitVec.eq_of_getMsbD_eq fun j hj => ?_
  rw [getMsbD_subkey_schedule key false hh hj, desPC2, getMsbD_permute_succ hj rfl (pc2_getD_lt j),
    getMsbD_rotateHalves_selectedBits key h (pc2_getD_lt j)]
  rfl

theorem subkeys_schedule_false (key : Bytes8) : subkeys (schedule key false) = desKeys (block64 (rev8 key)) := by
  rw [desKeys_eq, subkeys_eq_map fun _ => subkey_schedule_false key]

theorem subkeys_revPairs (ks : KeySched) : subkeys (revPairs ks) = (subkeys ks).reverse := by
  have hword : ∀ i < 16, subkey (revPairs ks) i = subkey ks (15 - i) := fun i hi => by
    have hEven : ksWord (revPairs ks) (2 * i) = ksWord ks (2 * (15 - i)) := ksWord_revPairs_pair ks hi (b := 0) (by decide)
    rw [subkey, subkey, hEven, ksWord_revPairs_pair ks hi (b := 1) (by decide)]
  have hrange : (List.range 16).reverse = (List.range 16).map (15 - ·) := by decide
  rw [subkeys_eq_map hword, subkeys, ← List.map_reverse, hrange, List.map_map]
  rfl

/-- Settles O57: the transform is DES under the schedule's subkeys, which are the round keys in their order or in reverse. -/
theorem transformIsDesWithReversedKeyBytes : Obligations.TransformIsDesWithReversedKeyBytes := by
  refine fun key b => ⟨?_, ?_⟩
  · rw [transform_eq_desBlock, subkeys_schedule_false, desEnc]
  · rw [transform_eq_desBlock, schedule_true, subkeys_revPairs, subkeys_schedule_false, desDec]

end Sys2Proof.Machine
end

section
/-! Complementation (spec/44_rounds.md R182): complementing the key complements every subkey, and a DES round under complemented
subkeys on complemented halves gives complemented halves, since a box sees the XOR of two complements. -/

namespace Sys2Proof.Machine

theorem byteAt_compl (b : Bytes8) {i : Nat} (hi : i < 8) : byteAt b.compl i = ~~~byteAt b i := by
  rw [byteAt_of_lt _ hi, byteAt_of_lt _ hi, Bytes8.compl, Vector.getElem_ofFn]
  rfl

theorem pc1m_compl (key : Bytes8) (j : Nat) : pc1m key.compl j = !pc1m key j := by
  have hl := pc1_getD_lt_64 j
  rw [pc1m, pc1m, keyBit_eq_getLsbD, keyBit_eq_getLsbD, byteAt_compl key (by omega), BitVec.getLsbD_not,
    decide_eq_true (Nat.mod_lt _ (by decide)), Bool.true_and]

theorem pcr_compl (key : Bytes8) (i j : Nat) : pcr key.compl i j = !pcr key i j := by
  simp only [pcr, pc1m_compl]
  split_ifs <;> rfl

theorem subkeys_schedule_compl (key : Bytes8) (d : Bool) :
    subkeys (schedule key.compl d) = (subkeys (schedule key d)).map (~~~·) := by
  have hbits : ∀ h < 16, subkey (schedule key.compl d) h = ~~~subkey (schedule key d) h := fun h hh => by
    refine BitVec.eq_of_getMsbD_eq fun j hj => ?_
    rw [BitVec.getMsbD_not, decide_eq_true hj, Bool.true_and, getMsbD_subkey_schedule _ d hh hj,
      getMsbD_subkey_schedule _ d hh hj, pcr_compl]
  rw [subkeys_eq_map hbits, subkeys, List.map_map]
  rfl

/-- A table whose entries are positions of x takes complements to complements. -/
theorem permute_not {n m : Nat} {table : List Nat} (h : ∀ i < m, n - table.getD i 0 < n) (x : BitVec n) :
    permute table m (~~~x) = ~~~permute table m x := by
  refine BitVec.eq_of_getLsbD_eq fun i hi => ?_
  have hpos := h (m - 1 - i) (by omega)
  rw [BitVec.getLsbD_not, getLsbD_permute, getLsbD_permute, if_pos hi, if_pos hi, bitAt, bitAt, BitVec.getLsbD_not,
    decide_eq_true hi, decide_eq_true hpos]

theorem desF_not (r : Word) (k : BitVec 48) : desF (~~~r) (~~~k) = desF r k := by
  have hE : expandE (~~~r) = ~~~expandE r := permute_not (by decide) r
  rw [desF, desF, hE, ← BitVec.not_xor_left, ← BitVec.not_xor_right, BitVec.not_not]

/-- Both halves complemented. -/
def complHalves (lr : Word × Word) : Word × Word := (~~~lr.1, ~~~lr.2)

theorem extractLsb'_not {w start len : Nat} (h : start + len ≤ w) (x : BitVec w) :
    (~~~x).extractLsb' start len = ~~~x.extractLsb' start len := by
  refine BitVec.eq_of_getLsbD_eq fun i hi => ?_
  have hin : start + i < w := by omega
  simp only [BitVec.getLsbD_extractLsb', BitVec.getLsbD_not, hi, hin, decide_true, Bool.true_and]

theorem halves_not (x : BitVec 64) : halves (~~~x) = complHalves (halves x) := by
  rw [halves, halves, complHalves, extractLsb'_not (by decide), extractLsb'_not (by decide)]

theorem desRound_compl (lr : Word × Word) (k : BitVec 48) : desRound (complHalves lr) (~~~k) = complHalves (desRound lr k) := by
  rw [desRound, desRound, complHalves, complHalves, desF_not, BitVec.not_xor_left]

theorem foldl_desRound_compl (keys : List (BitVec 48)) (lr : Word × Word) :
    (keys.map (~~~·)).foldl desRound (complHalves lr) = complHalves (keys.foldl desRound lr) := by
  induction keys generalizing lr with
  | nil => rfl
  | cons k keys ih => rw [List.map_cons, List.foldl_cons, List.foldl_cons, desRound_compl, ih]

theorem desBlock_compl (keys : List (BitVec 48)) (x : BitVec 64) : desBlock (keys.map (~~~·)) (~~~x) = ~~~desBlock keys x := by
  have hIP : permIP (~~~x) = ~~~permIP x := permute_not (by decide) x
  have hFP (y : BitVec 64) : permFP (~~~y) = ~~~permFP y := permute_not (by decide) y
  rw [desBlock, desBlock, hIP, ← halves, ← halves, halves_not, foldl_desRound_compl, complHalves, ← BitVec.not_append, hFP]

theorem block64_compl (b : Bytes8) : block64 b.compl = ~~~block64 b := by
  refine BitVec.eq_of_getMsbD_eq fun l hl => ?_
  rw [getMsbD_block64 _ hl, byteAt_compl b (by omega), BitVec.getMsbD_not, BitVec.getMsbD_not, getMsbD_block64 b hl,
    decide_eq_true hl, decide_eq_true (Nat.mod_lt l (by decide))]

theorem bytes64_not (x : BitVec 64) : bytes64 (~~~x) = (bytes64 x).compl := by
  rw [← bytes64_block64 (bytes64 x).compl, block64_compl, block64_bytes64]

/-- Settles O56: the transform is DES under the schedule's subkeys, and complementing key and block complements subkeys, halves
and result. -/
theorem complementationProperty : Obligations.ComplementationProperty := by
  intro key b d
  rw [transform_eq_desBlock, transform_eq_desBlock, subkeys_schedule_compl, block64_compl, desBlock_compl, bytes64_not]

end Sys2Proof.Machine
end

section
/-! A command in flight (spec/45_commands.md R212, R213): until its last cycle an edge changes ERRCODE, the cycles left, the working
state and the port's fields alone, and the last one commits the results. -/

namespace Sys2Proof.Machine

/-- A write while busy changes ERRCODE alone, and that only from 0, at CTRL, KEY and DIN (R213). -/
theorem busyWrite_eq (off : Nat) (s : State) :
    busyWrite off s = { s with err := if (off = 0 ∨ (8 ≤ off ∧ off ≤ 23)) ∧ s.err = 0 then 3 else s.err } := by
  have hoff : busyWriteIsError off = true ↔ off = 0 ∨ (8 ≤ off ∧ off ≤ 23) := by simp [busyWriteIsError]
  by_cases h : off = 0 ∨ (8 ≤ off ∧ off ≤ 23)
  · rw [busyWrite, if_pos (hoff.2 h)]
    simp only [h, true_and]
    rfl
  · rw [busyWrite, if_neg (mt hoff.1 h), if_neg (mt And.left h)]

/-- What ERRCODE can be later on while the command in flight at `s` goes on: only a dropped write raises it, so nothing does at
an idle port (R213). -/
def ErrKept (s : State) (e : BitVec 3) : Prop :=
  (e = s.err ∨ (s.err = 0 ∧ e = 3)) ∧ (s.port = [] → e = s.err)

theorem ErrKept.refl (s : State) : ErrKept s s.err := ⟨.inl rfl, fun _ => rfl⟩

theorem ErrKept.trans {s u : State} {e : BitVec 3} (hu : ErrKept s u.err) (he : ErrKept u e)
    (hport : s.port = [] → u.port = []) : ErrKept s e := by
  refine ⟨?_, fun h => (he.2 (hport h)).trans (hu.2 h)⟩
  rcases he.1 with he | ⟨hzero, he⟩
  · rw [he]
    exact hu.1
  · rcases hu.1 with hu | ⟨-, hu⟩
    · exact .inr ⟨hu ▸ hzero, he⟩
    · rw [hu] at hzero
      exact absurd hzero (by decide)

/-- No access touches anything but ERRCODE while a command is in flight. -/
theorem accessed_of_busy {s : State} (a : Option Access) (h : s.pend.isSome = true) :
    ∃ e, accessed a s = { s with err := e } ∧ (e = s.err ∨ (s.err = 0 ∧ e = 3)) := by
  cases a with
  | none => exact ⟨s.err, rfl, .inl rfl⟩
  | some a =>
    cases a with
    | read off bytes => exact ⟨s.err, rfl, .inl rfl⟩
    | write off data =>
      refine ⟨_, (if_pos h).trans (busyWrite_eq off s), ?_⟩
      split_ifs with hw
      · exact .inr ⟨hw.2, rfl⟩
      · exact .inl rfl

theorem cycled_of_busy {c : PortCycle} {s : State} {p : Pending} (hrst : c.rst = false) (hp : s.pend = some p) :
    ∃ e, cycled c s = engineEdge (some p) { s with rdata := readData c s, err := e } ∧
      (e = s.err ∨ (s.err = 0 ∧ e = 3)) := by
  obtain ⟨e, haccess, herr⟩ := accessed_of_busy c.access (s := { s with rdata := readData c s }) (by simp [hp])
  exact ⟨e, by rw [cycled, hrst, haccess, hp]; rfl, herr⟩

/-- A step at a port whose next cycle is legal. -/
theorem step_of_legal {s : State} {c : PortCycle} {rest : List PortCycle} (hport : s.port = c :: rest)
    (hc : cycleLegal c = true) : step s = .next (cycled c { s with port := rest }) := by
  rw [step_eq, takeCycle_cons hport, clockCycle_of_legal hc]

/-- One cycle of a command in flight, short of reset: the access changes ERRCODE at most, then comes the engine's edge. -/
theorem step_of_busy {s : State} {p : Pending} (hp : s.pend = some p) (hrun : ∀ c ∈ s.port.head?, cycleRuns c = true) :
    ∃ e r, step s = .next (engineEdge (some p) { s with port := s.port.tail, rdata := r, err := e }) ∧
      ErrKept s e ∧ (s.port = [] → r = none) := by
  cases hport : s.port with
  | nil =>
    refine ⟨s.err, none, ?_, .refl s, fun _ => rfl⟩
    rw [step_of_idle_port hport, hp, List.tail_nil, ← hport]
  | cons c rest =>
    obtain ⟨hlegal, hrst⟩ : cycleLegal c = true ∧ c.rst = false := by simpa [cycleRuns] using hrun c (by simp [hport])
    obtain ⟨e, hcycle, herr⟩ := cycled_of_busy hrst (s := { s with port := rest }) hp
    refine ⟨e, readData c { s with port := rest }, ?_, ⟨herr, by simp [hport]⟩, nofun⟩
    rw [step_of_legal hport hlegal, hcycle, List.tail_cons]

/-- A completion reads neither the fields that a command in flight may change nor the port's (R212). -/
theorem complete_of_frame (p : Pending) (s : State) (pend : Option Pending) (err : BitVec 3) (work : Work) (rdata : Option Byte)
    (port : List PortCycle) (n : Nat) :
    complete p { s with pend := pend, err := err, work := work, rdata := rdata, port := port, freeCount := n } =
      { complete p s with err := err, rdata := rdata, port := port, freeCount := n } := by
  cases p with | mk op d key din remaining => cases op <;> rfl

theorem complete_of_remaining (p : Pending) (m : Nat) (s : State) : complete { p with remaining := m } s = complete p s := rfl

/-- `u` is what `k` cycles, none of them the last, make of a state `s` with the command `p` in flight: all registers but
ERRCODE are as they were. -/
def InFlightAfter (s : State) (p : Pending) (k : Nat) (u : State) : Prop :=
  ∃ e w r n, ErrKept s e ∧
    u = { s with pend := some { p with remaining := p.remaining - k }, err := e, work := w, rdata := r,
                 port := s.port.drop k, freeCount := n }

/-- The step after `k` cycles: one more edge of the command in flight. -/
theorem step_of_inFlightAfter {s u : State} {p : Pending} {k : Nat} (hu : InFlightAfter s p k u)
    (hrun : ∀ c ∈ s.port[k]?, cycleRuns c = true) :
    ∃ e w r n, ErrKept s e ∧ (s.port = [] → r = none) ∧
      step u = .next (engineEdge (some { p with remaining := p.remaining - k })
        { s with pend := some { p with remaining := p.remaining - k }, err := e, work := w, rdata := r,
                 port := s.port.drop (k + 1), freeCount := n }) := by
  obtain ⟨e, w, r, n, he, hu⟩ := hu
  obtain ⟨e', r', hstep, he', hr'⟩ := step_of_busy (s := u) (by rw [hu]) (by simpa only [hu, List.head?_drop] using hrun)
  subst hu
  have hport (h : s.port = []) : s.port.drop k = [] := by rw [h, List.drop_nil]
  exact ⟨e', w, r', n, he.trans he' hport, fun h => hr' (hport h), by rw [hstep, List.tail_drop]⟩

theorem cycleRuns_of_lt_remaining {s : State} {p : Pending} {k : Nat}
    (hrun : ∀ c ∈ s.port.take p.remaining, cycleRuns c = true) (hk : k < p.remaining) : ∀ c ∈ s.port[k]?, cycleRuns c = true :=
  fun c hc => hrun c (List.mem_of_getElem? ((List.getElem?_take_of_lt hk).trans hc))

section Run
variable {s : State} {p : Pending} (hp : s.pend = some p) (hrun : ∀ c ∈ s.port.take p.remaining, cycleRuns c = true)
include hp hrun

/-- The countdown: every cycle before the last takes one from the cycles left. -/
theorem run_inFlightAfter {k : Nat} (hk : k < p.remaining) :
    ∃ u, Host.Core.run Sys2Proof.core k s = .next u ∧ InFlightAfter s p k u := by
  induction k with
  | zero =>
    refine ⟨s, run_zero s, s.err, s.work, s.rdata, s.freeCount, .refl s, ?_⟩
    rw [List.drop_zero, Nat.sub_zero, ← hp]
  | succ k ih =>
    obtain ⟨u, hu, hin⟩ := ih (Nat.lt_of_succ_lt hk)
    obtain ⟨e, w, r, n, he, -, hstep⟩ := step_of_inFlightAfter hin (cycleRuns_of_lt_remaining hrun (Nat.lt_of_succ_lt hk))
    rw [engineEdge_of_one_lt (show 1 < p.remaining - k by omega)] at hstep
    exact ⟨_, (run_add 1 hu).trans (run_succ_of_next 0 hstep), e, _, r, _, he, rfl⟩

/-- The completion (R212): the last cycle commits the results of the operation, on the registers as they were. -/
theorem run_completes (hpos : 1 ≤ p.remaining) :
    ∃ e r n, ErrKept s e ∧ (s.port = [] → r = none) ∧
      Host.Core.run Sys2Proof.core p.remaining s =
        .next { complete p s with err := e, rdata := r, port := s.port.drop p.remaining, freeCount := n } := by
  obtain ⟨k, hk⟩ : ∃ k, p.remaining = k + 1 := Nat.exists_eq_add_of_le' hpos
  obtain ⟨u, hu, hin⟩ := run_inFlightAfter hp hrun (k := k) (by omega)
  obtain ⟨e, w, r, n, he, hr, hstep⟩ := step_of_inFlightAfter hin (cycleRuns_of_lt_remaining hrun (by omega))
  rw [engineEdge_of_le_one (show p.remaining - k ≤ 1 by omega)] at hstep
  refine ⟨e, r, n, he, hr, ?_⟩
  rw [hk, run_add 1 hu, run_succ_of_next 0 hstep, run_zero, complete_of_remaining, complete_of_frame]

end Run

/-- Settles O31: a run of fewer than `remaining` cycles is the countdown, and the last cycle is the completion, which commits
by the operation. -/
theorem commandInFlightCompletes : Obligations.CommandInFlightCompletes := by
  intro s p hinv hp hrun
  obtain ⟨hpos, -⟩ := hinv.pend_range p hp
  have hdone : s.done = false := hinv.busy_not_done (by simp [hp])
  constructor
  · intro k hk
    obtain ⟨u, hu, e, w, r, n, -, rfl⟩ := run_inFlightAfter hp hrun hk
    exact ⟨_, hu, rfl, hdone, rfl, rfl, rfl, rfl, rfl, rfl⟩
  · obtain ⟨e, r, n, ⟨herr, hidle⟩, -, ht⟩ := run_completes hp hrun hpos
    refine ⟨_, ht, rfl, rfl, rfl, rfl, complete_key p s, complete_din p s, herr, hidle, ?_⟩
    cases p with | mk op d key din remaining =>
    cases op with
    | crypt | ksload | transform | kserase => exact ⟨rfl, rfl, rfl, rfl⟩

end Sys2Proof.Machine
end

section
/-! The commands from issue to completion (spec/45_commands.md R201, R202, R207, R208): an idle engine that goes busy holds its
operands in the snapshot, so quiet cycles commit the operation's results on KEY and DIN as they were at issue. -/

namespace Sys2Proof.Machine

section Quiet
variable {t : State} {p : Pending} (hp : t.pend = some p)
include hp

/-- Quiet cycles before the last leave the command in flight and every result as it was. -/
theorem quietRun_busy {k : Nat} (hk : k < p.remaining) :
    ∃ v, quietRun k t = .next v ∧ busy v = true ∧ v.dout = t.dout ∧ v.ks = t.ks := by
  obtain ⟨u, hu, e, w, r, n, -, rfl⟩ := run_inFlightAfter (s := { t with port := [] }) hp (by simp) hk
  exact ⟨_, hu, rfl, rfl, rfl⟩

theorem quietRun_completes (hpos : 1 ≤ p.remaining) :
    ∃ n, quietRun p.remaining t = .next { complete p t with err := t.err, rdata := none, port := [], freeCount := n } := by
  obtain ⟨e, r, n, ⟨-, he⟩, hr, hu⟩ := run_completes (s := { t with port := [] }) hp (by simp) hpos
  obtain rfl := he rfl
  obtain rfl := hr rfl
  refine ⟨n, hu.trans ?_⟩
  rw [List.drop_nil, complete_of_frame p t t.pend t.err t.work t.rdata [] t.freeCount]
  rfl

end Quiet

/-- From its issue on the registers of `s`, a command's cycles end in the completion of its snapshots on those registers (R212). -/
theorem quietRun_goBusy (op : BusyOp) (d : Bool) (s : State) :
    ∃ n, quietRun (Config.cmdCycles op) (goBusy op d s) =
      .next { complete (snapshot op d s) s with err := s.err, rdata := none, port := [], freeCount := n } := by
  obtain ⟨n, hn⟩ := quietRun_completes (goBusy_pend op d s) (cmdCycles_pos op)
  refine ⟨n, hn.trans ?_⟩
  rw [goBusy, complete_of_frame (snapshot op d s) s _ s.err s.work s.rdata s.port s.freeCount]

/-- STATUS of an idle engine with DONE = 1, no error and no schedule. -/
theorem status_eq_done {s : State} (hp : s.pend = none) (hdone : s.done = true) (herr : s.err = 0) (hksv : s.ksv = false)
    (hksdir : s.ksdir = false) : status s = 0x02 := by
  simp [status, busy, hp, hdone, herr, hksv, hksdir, bitByte]

/-- Settles O8: the issue takes the snapshots, and the completion of CRYPT commits the transform and erases the schedule. -/
theorem encryptCompletes : Obligations.EncryptCompletes := by
  refine ⟨fun s hs => ?_, fun s => exec_of_busy .encrypt, by decide +kernel⟩
  obtain ⟨n, hn⟩ := quietRun_goBusy .crypt false (clearStatus s)
  refine ⟨goBusy .crypt false (clearStatus s), _, n, exec_of_idle .encrypt hs, rfl, fun k hk => ?_, hn, rfl, ?_⟩
  · obtain ⟨v, hv, hbusy, hdout, -⟩ := quietRun_busy (goBusy_pend .crypt false (clearStatus s)) hk
    exact ⟨v, hv, hbusy, hdout⟩
  · exact status_eq_done rfl rfl rfl rfl rfl

/-- Settles O14: the completion of KSERASE erases the schedule and writes no other register but STATUS. -/
theorem kseraseCompletes : Obligations.KseraseCompletes := by
  refine ⟨fun s hs => ?_, fun s => exec_of_busy .kserase⟩
  obtain ⟨n, hn⟩ := quietRun_goBusy .kserase false (clearStatus s)
  refine ⟨goBusy .kserase false (clearStatus s), _, n, exec_of_idle .kserase hs, rfl, fun k hk => ?_, hn, rfl, ?_⟩
  · obtain ⟨v, hv, hbusy, -, hks⟩ := quietRun_busy (goBusy_pend .kserase false (clearStatus s)) hk
    exact ⟨v, hv, hbusy, hks⟩
  · exact status_eq_done rfl rfl rfl rfl rfl

/-- The KSV and KSDIR bits of STATUS are the schedule's (R25). -/
theorem status_and_scheduleBits (s : State) : status s &&& (0x0C : Byte) = (bitByte s.ksdir <<< 3) ||| (bitByte s.ksv <<< 2) := by
  have h : ∀ (err : BitVec 3) (ksdir ksv done busy : Bool),
      ((err.zeroExtend 8 <<< 4) ||| (bitByte ksdir <<< 3) ||| (bitByte ksv <<< 2) ||| (bitByte done <<< 1) |||
        bitByte busy) &&& (0x0C : Byte) =
        (bitByte ksdir <<< 3) ||| (bitByte ksv <<< 2) := by decide
  exact h _ _ _ _ _

/-- STATUS of an idle engine that a command has left with DONE = 1 and an ERRCODE: the schedule's bits stay. -/
theorem status_done_err {s : State} (hs : s.pend = none) (e : BitVec 3) :
    status { s with done := true, err := e } = (e.zeroExtend 8 <<< 4) ||| (status s &&& (0x0C : Byte)) ||| 0x02 := by
  rw [status_and_scheduleBits, ← BitVec.or_assoc]
  simp [status, busy, hs, bitByte]

/-- Settles O7: NOP's issue sets DONE after DONE and ERRCODE are cleared. -/
theorem nopSetsDoneAndClearsError : Obligations.NopSetsDoneAndClearsError := by
  refine fun s => ⟨fun hs => ?_, exec_of_busy .nop⟩
  have hnext : exec .nop s = .next { s with done := true, err := 0 } := exec_of_idle .nop hs
  exact ⟨hnext, fun hst => ⟨_, hnext, by rw [status_done_err hs, hst]; rfl⟩⟩

/-- Settles O15: the write is ILLEGAL_CMD's rejection, and the bytes named are illegal. -/
theorem illegalCommandChangesOnlyStatus : Obligations.IllegalCommandChangesOnlyStatus := by
  have hwrite (s : State) (c : Byte) (hs : s.pend = none) (hc : (decodeByte c).toOption = none) :
      writeReg 0x00 c s = .next { s with done := true, err := 1 } := writeCtrl_of_illegal hc hs
  refine ⟨hwrite, fun c hc => (decodeByte_toOption_eq_none_iff c).2 ?_, fun s hs hst => ?_⟩
  · rcases hc with h | h | rfl | h
    · exact .inl h
    · exact .inr (.inl h)
    · exact .inr (.inr (by decide))
    · exact .inr (.inr (Nat.le_of_lt h))
  · exact ⟨_, hwrite s 0x07 hs (by decide), by rw [status_done_err hs, hst]; rfl⟩

end Sys2Proof.Machine
end

section
/-! Host accesses (spec/45_commands.md R209, R210, R213): a store at each offset, a read at each offset, and a cycle with a dropped
write against the same cycle without it. -/

namespace Sys2Proof.Machine

/-! Stores (R209). -/

theorem storeReg_of_key {off : Nat} (h : 8 ≤ off ∧ off ≤ 15) (v : Byte) (s : State) :
    storeReg off v s = { s with key := s.key.setIfInBounds (off - 8) v } := if_pos h

theorem storeReg_of_din {off : Nat} (h : 16 ≤ off ∧ off ≤ 23) (v : Byte) (s : State) :
    storeReg off v s = { s with din := s.din.setIfInBounds (off - 16) v } := by
  have hKey : ¬ (0x08 ≤ off ∧ off ≤ 0x0F) := by omega
  rw [storeReg, if_neg hKey]
  exact if_pos h

theorem writeReg_of_idle_store {s : State} {off : Nat} (v : Byte) (hs : s.pend = none) (hoff : off ≠ 0) :
    writeReg off v s = .next (storeReg off v s) := by
  rw [writeReg_of_idle off v hs, if_neg hoff]

/-- Settles O16: each range of offsets is a store of one byte, the CTRL write of R211, or an ignored write. -/
theorem hostWriteStoresKeyAndDin : Obligations.HostWriteStoresKeyAndDin := by
  refine fun s off v _ => ⟨fun hs => ⟨fun h => ?key, fun h => ?din, ?ctrl, fun h => writeReg_of_ignored h v s⟩,
    writeReg_of_busy off v⟩
  case key =>
    exact ⟨_, (writeReg_of_idle_store v hs (by omega)).trans (congrArg _ (storeReg_of_key h v s)),
      fun j => byteAt_setIfInBounds s.key v⟩
  case din =>
    exact ⟨_, (writeReg_of_idle_store v hs (by omega)).trans (congrArg _ (storeReg_of_din h v s)),
      fun j => byteAt_setIfInBounds s.din v⟩
  case ctrl =>
    rintro rfl
    refine ⟨fun i hi => ?_, fun e he => writeCtrl_of_illegal (by rw [he]; rfl) hs⟩
    rw [writeReg_of_idle 0 v hs, if_pos rfl, exec_of_idle i hs, acceptedByte, hi]

/-! Reads (R210). -/

theorem status_getLsbD_zero (s : State) : (status s).getLsbD 0 = busy s := by
  cases hb : busy s <;> simp [status, hb, bitByte]

/-- What each of the 32 offsets reads, in the order of the window (R52). -/
theorem readReg_eq {off : Nat} (h : off ≤ 31) (s : State) :
    readReg off s =
      if off = 0 then 0x00
      else if off = 1 then status s
      else if off ≤ 7 then 0x00
      else if off ≤ 15 then 0x00
      else if off ≤ 23 then s.din.getD (off - 16) 0
      else s.dout.getD (off - 24) 0 := by
  interval_cases off <;> rfl

/-- A cycle that reads changes nothing beyond `rdata` and the engine's edge. -/
theorem cycled_readCycle (off : Nat) (s : State) :
    cycled (readCycle off) s = engineEdge s.pend { s with rdata := some (readReg off s) } := rfl

theorem cycleLegal_readCycle {off : Nat} (h : off ≤ 31) : cycleLegal (readCycle off) = true := by
  simp [cycleLegal, readCycle, accessRefusal, Nat.not_lt.2 h]

theorem cycleLegal_writeCycle {off : Nat} (h : off ≤ 31) (v : Byte) : cycleLegal (writeCycle off v) = true := by
  simp [cycleLegal, writeCycle, accessRefusal, Nat.not_lt.2 h]

/-- Settles O17: a read cycle's value is the register's at its start, and the rest of the cycle is the engine's edge. -/
theorem hostReadReturnsRegister : Obligations.HostReadReturnsRegister := by
  refine fun s off rest hoff hport => ⟨?_, by rw [status_getLsbD_zero]; rfl⟩
  rw [step_of_legal hport (cycleLegal_readCycle hoff), cycled_readCycle, readReg_eq hoff]
  rfl

/-! Dropped writes (R213). -/

/-- The engine's edge neither reads nor writes ERRCODE. -/
theorem engineEdge_setErr (inFlight : Option Pending) (s : State) (e : BitVec 3) :
    engineEdge inFlight { s with err := e } = { engineEdge inFlight s with err := e } := by
  cases inFlight with
  | none => rfl
  | some p =>
    by_cases h : 1 < p.remaining
    · simp only [engineEdge_of_one_lt h]
      rfl
    · simp only [engineEdge_of_le_one (Nat.not_lt.1 h)]
      cases p with | mk op d key din remaining => cases op <;> rfl

/-- A cycle with a write while busy is the cycle without it, but for ERRCODE. -/
theorem cycled_writeCycle_of_busy {s : State} (hs : s.pend.isSome = true) (off : Nat) (v : Byte) :
    cycled (writeCycle off v) s =
      { cycled idleCycle s with err := if (off = 0 ∨ (8 ≤ off ∧ off ≤ 23)) ∧ s.err = 0 then 3 else s.err } := by
  have hwrite : written off v { s with rdata := none } = busyWrite off { s with rdata := none } := if_pos hs
  rw [busyWrite_eq] at hwrite
  exact (congrArg (engineEdge s.pend) hwrite).trans (engineEdge_setErr _ _ _)

/-- Settles O18: the write changes ERRCODE alone, and the edge of the command in flight commutes with that. -/
theorem writeWhileBusyIsDropped : Obligations.WriteWhileBusyIsDropped := by
  refine fun s off v rest hoff hs => ⟨by rw [writeReg_of_busy off v hs, busyWrite_eq], _, step_of_legal rfl rfl, ?_⟩
  rw [step_of_legal rfl (cycleLegal_writeCycle hoff v)]
  exact congrArg _ (cycled_writeCycle_of_busy (s := { s with port := rest }) hs off v)

end Sys2Proof.Machine
end

section
/-! Errors and simultaneous events (spec/60_exceptions.md R231, R235): which cycles keep ERRCODE, what an issue records, and the
edge on which a dropped write meets a completion. -/

namespace Sys2Proof.Machine

/-! The first error is kept (R231). -/

/-- After an error the code is not 0, so that a second error finds nothing to record. -/
theorem raise_err_ne_zero (e : EngineError) (s : State) : (raise e s).err ≠ 0 := by
  by_cases h : s.err = 0
  · rw [raise_of_err_zero e h]
    exact errorCode_ne_zero e
  · rwa [raise_of_err_ne_zero e h]

/-- Of the accesses, only a write to CTRL at an idle engine replaces a code that is recorded. -/
theorem accessed_err_of_no_issue {a : Option Access} (hlegal : a.bind accessRefusal = none) {s : State}
    (hissue : ¬ (s.pend = none ∧ ∃ v, a = some (.write 0 [v]))) (herr : s.err ≠ 0) : (accessed a s).err = s.err := by
  cases hp : s.pend with
  | some p =>
    obtain ⟨e, haccess, hkept | ⟨hzero, -⟩⟩ := accessed_of_busy a (s := s) (by simp [hp])
    · rw [haccess, hkept]
    · exact absurd hzero herr
  | none =>
    cases a with
    | none => rfl
    | some a =>
      cases a with
      | read off bytes => rfl
      | write off data =>
        obtain ⟨v, rfl, -⟩ := accessRefusal_write hlegal
        have hoff : off ≠ 0 := fun h => hissue ⟨hp, v, by rw [h]⟩
        simp [accessed, written, hp, hoff]

/-- A cycle without reset leaves the ERRCODE that its access leaves: the engine's edge does not touch it. -/
theorem cycled_err {c : PortCycle} (hrst : c.rst = false) (s : State) :
    (cycled c s).err = (accessed c.access { s with rdata := readData c s }).err := by
  simp [cycled, hrst]

/-- Settles O25: raising writes an ERRCODE of 0 only, an accepted CTRL write clears DONE and ERRCODE before it does anything
else, and in every other cycle without reset neither the access nor the engine's edge replaces a recorded code. -/
theorem firstErrorIsKept : Obligations.FirstErrorIsKept := by
  refine ⟨fun _ _ => rfl, fun e f s => raise_of_err_ne_zero f (raise_err_ne_zero e s), fun c s d e hs => ?_,
    fun s t rest hport hstep => ?_, fun s t hstep hrst hissue herr => ?_⟩
  · rw [writeReg_of_idle 0x00 c hs, writeReg_of_idle 0x00 c (s := { s with done := d, err := e }) hs]
    rfl
  · rw [step_of_legal hport (cycleLegal_readCycle (by decide)), cycled_readCycle] at hstep
    cases hstep
    exact engineEdge_err _ _
  · obtain ⟨hlegal, rfl⟩ := step_next hstep
    have haccess : (takeCycle s).1.access.bind accessRefusal = none := by simpa [cycleLegal] using hlegal
    have hcycle (v : Byte) (h : (takeCycle s).1.access = some (.write 0 [v])) : (takeCycle s).1 = writeCycle 0x00 v := by
      rw [writeCycle, ← hrst, ← h]
    rw [cycled_err hrst, accessed_err_of_no_issue haccess]
    · exact takeCycle_err s
    · rintro ⟨hp, v, hv⟩
      exact hissue ⟨(takeCycle_pend s).symm.trans hp, v, hcycle v hv⟩
    · simpa using herr

/-! Events that meet on one edge (R235). -/

/-- Of the commands, only TRANSFORM records an error at its issue, and that only without a schedule (R206). -/
theorem accepted_clearStatus_err (i : Instr) (s : State) :
    (accepted i (clearStatus s)).err = if i = .transform ∧ s.ksv = false then 2 else 0 := by
  cases i with
  | transform => cases h : s.ksv <;> simp [accepted, issueTransform, h, errorCode]
  | nop | encrypt | decrypt | ksloadE | ksloadD | kserase => rfl

/-- On its last edge a command in flight completes on the registers of the state, whatever cycles are to come. -/
theorem cycled_idleCycle_of_le_one {s : State} {p : Pending} (hp : s.pend = some p) (hlast : p.remaining ≤ 1)
    (rest : List PortCycle) :
    cycled idleCycle { s with port := rest } = { complete p s with rdata := none, port := rest } := by
  have hedge : cycled idleCycle { s with port := rest } = engineEdge (some p) { s with rdata := none, port := rest } :=
    congrArg (engineEdge · _) hp
  rw [hedge, engineEdge_of_le_one hlast, complete_of_frame p s s.pend s.err s.work none rest s.freeCount,
    ← complete_err p s, ← complete_freeCount p s]

/-- Settles O26: by what an issue records, what a write while busy records, the completion that such a write does not disturb,
and the reset edge, on which neither the access nor the command in flight has an effect on the registers. -/
theorem simultaneousEventsPriority : Obligations.SimultaneousEventsPriority := by
  refine ⟨fun s c hs => ⟨_, writeReg_of_idle 0x00 c hs, ?_⟩,
    fun s off v hs => ⟨_, writeReg_of_busy off v hs, ?_⟩,
    fun s p off v rest hp hlast hoff hport => ?_,
    fun s c rest hport hrst hlegal => ⟨readData c { s with port := rest }, ?_⟩⟩
  · rw [if_pos rfl, acceptedByte]
    cases decodeByte c with
    | error e => rfl
    | ok i =>
      refine (accepted_clearStatus_err i s).trans ?_
      cases i with
      | transform => cases h : s.ksv <;> rfl
      | nop | encrypt | decrypt | ksloadE | ksloadD | kserase => rfl
  · rw [busyWrite_eq]
    split_ifs with h
    · exact .inr ⟨h.2, rfl⟩
    · exact .inl rfl
  · have hbusy : s.pend.isSome = true := by simp [hp]
    rw [step_of_legal hport (cycleLegal_writeCycle (by omega) v),
      cycled_writeCycle_of_busy (s := { s with port := rest }) hbusy, cycled_idleCycle_of_le_one hp hlast]
    exact ⟨_, rfl, rfl, rfl, by simp [hoff], rfl, rfl, rfl, rfl⟩
  · rw [step_of_legal hport hlegal, cycled, if_pos hrst]
    rfl

end Sys2Proof.Machine
end

section
/-! Reset (spec/70_reset_and_hazards.md R260, R261): what a cycle with `rst` = 1 leaves, and that more such cycles leave the same. -/

namespace Sys2Proof.Machine

/-- A cycle with `rst` = 1 leaves nothing of the registers, of a command in flight or of the access: only the read value, the
cycles to come and the model's counter can differ from the reset state. -/
theorem cycled_of_rst {c : PortCycle} (hrst : c.rst = true) (s : State) :
    cycled c s = { State.reset with rdata := readData c s, port := s.port, freeCount := s.freeCount } := if_pos hrst

/-- STATUS does not depend on the three fields that can differ from the reset state. -/
theorem status_reset (rdata : Option Byte) (port : List PortCycle) (freeCount : Nat) :
    status { State.reset with rdata := rdata, port := port, freeCount := freeCount } = 0x00 :=
  (by decide : status State.reset = 0x00)

theorem step_of_resetCycle {s : State} {rest : List PortCycle} (hport : s.port = resetCycle :: rest) :
    step s = .next { State.reset with port := rest, freeCount := s.freeCount } := by
  rw [step_of_legal hport rfl, cycled_of_rst rfl]
  rfl

/-- The state that one reset cycle leaves depends on neither the registers before it nor on earlier reset cycles. -/
theorem run_resetCycles (n : Nat) {s : State} {rest : List PortCycle}
    (hport : s.port = List.replicate (n + 1) resetCycle ++ rest) :
    Host.Core.run Sys2Proof.core (n + 1) s = .next { State.reset with port := rest, freeCount := s.freeCount } := by
  induction n generalizing s with
  | zero => exact run_succ_of_next 0 (step_of_resetCycle hport)
  | succ n ih => rw [run_succ_of_next (n + 1) (step_of_resetCycle hport), ih rfl]

/-- Settles O27: a step with `rst` = 1 is the reset edge with the cycle's read value, its STATUS is that of the reset state, and by
induction on the number of reset cycles the last of them leaves what a single one leaves. -/
theorem resetWinsAndResetsEverything : Obligations.ResetWinsAndResetsEverything := by
  refine ⟨fun s c rest hport hrst hlegal => ?_, fun s t c rest hport hrst hstep => ?_, fun s n rest => ?_⟩
  · rw [step_of_legal hport hlegal, cycled_of_rst hrst]
    obtain ⟨rst, access⟩ := c
    obtain rfl : rst = true := hrst
    match access with
    | none | some (.write _ _) | some (.read _ _) => rfl
  · obtain ⟨-, rfl⟩ := step_next hstep
    rw [takeCycle_cons hport, cycled_of_rst hrst, status_reset]
  · rw [run_resetCycles n rfl, run_resetCycles 0 rfl]

end Sys2Proof.Machine
end

section
/-! What one clock cycle can do (spec/20_memory.md R51, R60; spec/45_commands.md R212): the shapes of a step that answers a next
state, and what the access of a cycle leaves of the registers. Every statement about a whole step starts from them. -/

namespace Sys2Proof.Machine

/-- The shapes of a clock cycle that answers a next state: reset, an access at an idle engine, or an edge of the command in
flight, before which the access changed ERRCODE at most. -/
inductive StepShape (c : PortCycle) (s : State) : State → Prop
  | reset (r : Option Byte) (port : List PortCycle) (n : Nat) : c.rst = true →
      StepShape c s { State.reset with rdata := r, port := port, freeCount := n }
  | idle (r : Option Byte) (port : List PortCycle) : c.rst = false → s.pend = none →
      StepShape c s (accessed c.access { s with rdata := r, port := port })
  | countDown (p : Pending) (r : Option Byte) (port : List PortCycle) (e : BitVec 3) : c.rst = false → s.pend = some p →
      1 < p.remaining → e = s.err ∨ (s.err = 0 ∧ e = 3) →
      StepShape c s (countDown p { s with rdata := r, port := port, err := e })
  | complete (p : Pending) (r : Option Byte) (port : List PortCycle) (e : BitVec 3) : c.rst = false → s.pend = some p →
      p.remaining ≤ 1 → e = s.err ∨ (s.err = 0 ∧ e = 3) →
      StepShape c s (complete p { s with rdata := r, port := port, err := e })

theorem stepShape_cycled (c : PortCycle) (s : State) (port : List PortCycle) :
    StepShape c s (cycled c { s with port := port }) := by
  cases hrst : c.rst with
  | true =>
    rw [cycled_of_rst hrst]
    exact .reset _ _ _ hrst
  | false =>
    obtain hp | ⟨p, hp⟩ := Option.eq_none_or_eq_some s.pend
    · have hcycle : cycled c { s with port := port } =
          accessed c.access { s with rdata := readData c { s with port := port }, port := port } := by
        simp [cycled, hrst, hp]
      rw [hcycle]
      exact .idle _ _ hrst hp
    · obtain ⟨e, hcycle, herr⟩ := cycled_of_busy hrst (s := { s with port := port }) hp
      rw [hcycle]
      obtain hlast | hmore := le_or_gt p.remaining 1
      · rw [engineEdge_of_le_one hlast]
        exact .complete p _ port e hrst hp hlast herr
      · rw [engineEdge_of_one_lt hmore]
        exact .countDown p _ port e hrst hp hmore herr

theorem step_shape {s t : State} (h : step s = .next t) : StepShape (takeCycle s).1 s t := by
  obtain ⟨-, rfl⟩ := step_next h
  rw [takeCycle_snd s]
  exact stepShape_cycled _ s _

/-! An access. -/

/-- Whatever a cycle writes, the access leaves DOUT, the schedule and what is not a register of the host's (R209, R211, R213). -/
theorem accessed_frame (a : Option Access) (s : State) :
    ∃ key din done err pend, accessed a s = { s with key := key, din := din, done := done, err := err, pend := pend } := by
  match a with
  | none | some (.read _ _) => exact ⟨s.key, s.din, s.done, s.err, s.pend, rfl⟩
  | some (.write off data) =>
    simp only [accessed, written]
    split_ifs
    · exact ⟨s.key, s.din, s.done, _, s.pend, busyWrite_eq off s⟩
    · obtain ⟨pend, done, err, h⟩ := acceptedByte_frame (data.headD 0) (clearStatus s)
      exact ⟨s.key, s.din, done, err, pend, h⟩
    · rw [storeReg]
      split_ifs
      · exact ⟨_, s.din, s.done, s.err, s.pend, rfl⟩
      · exact ⟨s.key, _, s.done, s.err, s.pend, rfl⟩
      · exact ⟨s.key, s.din, s.done, s.err, s.pend, rfl⟩

@[simp] theorem engineEdge_rdata (p : Option Pending) (s : State) : (engineEdge p s).rdata = s.rdata := by
  cases p with
  | none => rfl
  | some p => unfold engineEdge; dsimp only; split_ifs <;> simp

/-- A cycle returns what its read finds at its start: neither a write nor the edge puts anything in its place (R51). -/
theorem cycled_rdata (c : PortCycle) (s : State) : (cycled c s).rdata = readData c s := by
  cases hrst : c.rst with
  | true => rw [cycled_of_rst hrst]
  | false =>
    obtain ⟨key, din, done, err, pend, haccess⟩ := accessed_frame c.access { s with rdata := readData c s }
    simp [cycled, hrst, haccess]

/-- The accesses that change the registers of an idle engine: a write to CTRL and a store to another offset. -/
theorem accessed_idle_cases {a : Option Access} (hlegal : a.bind accessRefusal = none) {s : State} (hs : s.pend = none) :
    accessed a s = s ∨ (∃ v, accessed a s = acceptedByte v (clearStatus s)) ∨
      ∃ off v, a = some (.write off [v]) ∧ accessed a s = storeReg off v s := by
  match a with
  | none | some (.read off bytes) => exact .inl rfl
  | some (.write off data) =>
    obtain ⟨v, rfl, -⟩ := accessRefusal_write hlegal
    have hwrite : accessed (some (.write off [v])) s =
        if off = 0 then acceptedByte v (clearStatus s) else storeReg off v s := by
      simp [accessed, written, hs]
    rw [hwrite]
    split_ifs
    · exact .inr (.inl ⟨v, rfl⟩)
    · exact .inr (.inr ⟨off, v, rfl, rfl⟩)

end Sys2Proof.Machine
end

section
/-! The invariant of the engine (spec/10_state.md R25-R29): it holds at reset, and each shape of a step keeps it. The clauses on an
idle engine and those on a command in flight are met apart. -/

namespace Sys2Proof.Machine

/-- At an idle engine the clauses on a command in flight hold for want of one. -/
theorem Inv.of_idle {s : State} (hp : s.pend = none) (err_legal : s.err.toNat ≤ 3)
    (loaded : s.ksv = true → ∃ key, s.ks = schedule key s.ksdir)
    (erased : s.ksv = false → s.ksdir = false ∧ s.ks = KeySched.zero)
    (fresh : s.done = false → s.err = 0 ∧ s.ksv = false ∧ s.dout = Bytes8.zero) (idle_work : s.work = Work.zero) : Inv s where
  err_legal := err_legal
  loaded := loaded
  erased := erased
  pend_range := by simp [hp]
  pend_loaded := by simp [hp]
  pend_dir := by simp [hp]
  pend_snap := by simp [hp]
  busy_not_done := by simp [hp]
  busy_err := by simp [hp]
  fresh := fun _ => fresh
  idle_work := fun _ => idle_work

theorem inv_reset (r : Option Byte) (port : List PortCycle) (n : Nat) :
    Inv { State.reset with rdata := r, port := port, freeCount := n } :=
  .of_idle rfl (Nat.zero_le 3) nofun (fun _ => ⟨rfl, rfl⟩) (fun _ => ⟨rfl, rfl, rfl⟩) rfl

/-- Settles O29: the reset state is idle, holds no schedule and has completed no command. -/
theorem resetSatisfiesEngineInvariant : Obligations.ResetSatisfiesEngineInvariant := inv_reset none [] 0

section Keeps
variable {s : State} (hinv : Inv s)
include hinv

/-- The invariant does not speak of the read value and the cycles to come. -/
theorem Inv.setPort (r : Option Byte) (port : List PortCycle) : Inv { s with rdata := r, port := port } where
  __ := hinv

/-! An access at an idle engine. -/

/-- An idle engine after a command has ended with a legal code. -/
theorem Inv.setDoneErr (hp : s.pend = none) {e : BitVec 3} (he : e.toNat ≤ 3) : Inv { s with done := true, err := e } :=
  .of_idle hp he hinv.loaded hinv.erased nofun (hinv.idle_work hp)

/-- The issue of a command that goes busy (R211). -/
theorem Inv.goBusy {op : BusyOp} {d : Bool} (hksv : op = .transform → s.ksv = true)
    (hd : op = .transform ∨ op = .kserase → d = false) : Inv (goBusy op d (clearStatus s)) where
  err_legal := Nat.zero_le 3
  loaded := hinv.loaded
  erased := hinv.erased
  pend_range := by rintro _ ⟨⟩; exact ⟨cmdCycles_pos op, le_rfl⟩
  pend_loaded := by rintro _ ⟨⟩; exact hksv
  pend_dir := by rintro _ ⟨⟩; exact hd
  pend_snap := by rintro _ ⟨⟩; exact ⟨rfl, rfl⟩
  busy_not_done := fun _ => rfl
  busy_err := fun _ => .inl rfl
  fresh := nofun
  idle_work := nofun

theorem Inv.acceptedByte (hp : s.pend = none) (v : Byte) : Inv (acceptedByte v (clearStatus s)) := by
  obtain h | ⟨e, h⟩ | ⟨op, d, h, hksv, hd⟩ := acceptedByte_cases v (clearStatus s) <;> rw [h]
  · exact hinv.setDoneErr hp (e := 0) (Nat.zero_le 3)
  · exact hinv.setDoneErr hp (errorCode_le_three e)
  · exact hinv.goBusy hksv hd

/-- A store changes KEY or DIN, and at an idle engine no snapshot has to agree with them. -/
theorem Inv.storeReg (hp : s.pend = none) (off : Nat) (v : Byte) : Inv (storeReg off v s) :=
  .of_idle (by simpa using hp) (by simpa using hinv.err_legal) (by simpa using hinv.loaded) (by simpa using hinv.erased)
    (by simpa using hinv.fresh hp) (by simpa using hinv.idle_work hp)

theorem Inv.accessed (hp : s.pend = none) {a : Option Access} (hlegal : a.bind accessRefusal = none) : Inv (accessed a s) := by
  obtain h | ⟨v, h⟩ | ⟨off, v, -, h⟩ := accessed_idle_cases hlegal hp <;> rw [h]
  · exact hinv
  · exact hinv.acceptedByte hp v
  · exact hinv.storeReg hp off v

/-! A command in flight. -/

section Busy
variable {p : Pending} (hp : s.pend = some p)
include hp

/-- A dropped write records WRITE_WHILE_BUSY at most (R213). -/
theorem Inv.setErr {e : BitVec 3} (he : e = s.err ∨ (s.err = 0 ∧ e = 3)) : Inv { s with err := e } where
  __ := hinv
  err_legal := by
    obtain rfl | ⟨-, rfl⟩ := he
    · exact hinv.err_legal
    · exact Nat.le_refl 3
  busy_err := fun h => by
    obtain rfl | ⟨-, rfl⟩ := he
    · exact hinv.busy_err h
    · exact .inr rfl
  fresh := by simp [hp]

theorem Inv.countDown (hmore : 1 < p.remaining) : Inv (countDown p s) where
  err_legal := hinv.err_legal
  loaded := hinv.loaded
  erased := hinv.erased
  pend_range := by
    rintro _ ⟨⟩
    obtain ⟨-, hmax⟩ := hinv.pend_range p hp
    exact ⟨Nat.le_sub_one_of_lt hmore, (Nat.sub_le _ _).trans hmax⟩
  pend_loaded := by rintro _ ⟨⟩; exact hinv.pend_loaded p hp
  pend_dir := by rintro _ ⟨⟩; exact hinv.pend_dir p hp
  pend_snap := by rintro _ ⟨⟩; exact hinv.pend_snap p hp
  busy_not_done := fun _ => hinv.busy_not_done (by simp [hp])
  busy_err := fun _ => hinv.busy_err (by simp [hp])
  fresh := nofun
  idle_work := nofun

end Busy

/-- A completion loads the schedule of the snapshot, erases it, or leaves it (R212). -/
theorem Inv.complete (p : Pending) : Inv (complete p s) := by
  have herr : (Machine.complete p s).err.toNat ≤ 3 := by simpa using hinv.err_legal
  cases p with | mk op d keysnap dinsnap remaining =>
  cases op with
  | crypt | kserase => exact .of_idle rfl herr nofun (fun _ => ⟨rfl, rfl⟩) nofun rfl
  | ksload => exact .of_idle rfl herr (fun _ => ⟨keysnap, rfl⟩) nofun nofun rfl
  | transform => exact .of_idle rfl herr hinv.loaded hinv.erased nofun rfl

end Keeps

/-- Settles O30, by the shapes of a step: reset gives the reset state, an access at an idle engine issues a command or stores a
byte, and the edge of a command in flight counts down or completes. -/
theorem stepKeepsEngineInvariant : Obligations.StepKeepsEngineInvariant := by
  intro s t hinv hstep
  obtain ⟨hlegal, -⟩ := step_next hstep
  have haccess : (takeCycle s).1.access.bind accessRefusal = none := by simpa [cycleLegal] using hlegal
  cases step_shape hstep with
  | reset r port n _ => exact inv_reset r port n
  | idle r port _ hp => exact (hinv.setPort r port).accessed hp haccess
  | countDown p r port e _ hp hmore he => exact ((hinv.setPort r port).setErr hp he).countDown hp hmore
  | complete p r port e _ hp _ he => exact ((hinv.setPort r port).setErr hp he).complete p

end Sys2Proof.Machine
end

section
/-! Refinement of the step relation without cycles (spec/45_commands.md R214, spec/20_memory.md R60): `State.abs` forgets what only
the clocked machine has, so an access does the same beneath it, a countdown does not show, and a completion is the event of that
name. -/

namespace Sys2Proof.Machine

/-! What the operations leave beneath `State.abs`. Only going busy adds anything to forget: the cycles left. -/

theorem busyWrite_abs (off : Nat) (s : State) : busyWrite off s.abs = (busyWrite off s).abs := by
  rw [busyWrite_eq, busyWrite_eq]
  rfl

theorem storeReg_abs (off : Nat) (v : Byte) (s : State) : storeReg off v s.abs = (storeReg off v s).abs := by
  unfold storeReg
  split_ifs <;> rfl

theorem complete_abs (p : Pending) (s : State) : complete p s.abs = (complete p s).abs := by
  rw [State.abs, complete_of_frame p s _ s.err, ← complete_err p s]
  rfl

theorem setDone_abs_abs (s : State) : (setDone s.abs).abs = (setDone s).abs := State.abs_abs (setDone s)

theorem rejectWith_abs_abs (e : EngineError) (s : State) : (rejectWith e s.abs).abs = (rejectWith e s).abs :=
  State.abs_abs (rejectWith e s)

theorem accepted_abs_abs (i : Instr) (s : State) : (accepted i s.abs).abs = (accepted i s).abs := by
  cases i with
  | nop => exact setDone_abs_abs s
  | transform =>
    have hissue (u : State) : accepted .transform u =
        if u.ksv then goBusy .transform false u else rejectWith .noSchedule u := by
      cases h : u.ksv <;> simp [accepted, issueTransform, h]
    rw [hissue, hissue, State.abs_ksv]
    split_ifs
    · rfl
    · exact rejectWith_abs_abs .noSchedule s
  | encrypt | decrypt | ksloadE | ksloadD | kserase => rfl

theorem acceptedByte_abs_abs (v : Byte) (s : State) : (acceptedByte v s.abs).abs = (acceptedByte v s).abs := by
  unfold acceptedByte
  cases decodeByte v with
  | ok i => exact accepted_abs_abs i s
  | error e => exact rejectWith_abs_abs .illegalCmd s

theorem written_abs_abs (off : Nat) (v : Byte) (s : State) : (written off v s.abs).abs = (written off v s).abs := by
  unfold written
  rw [State.abs_pend, Option.isSome_map]
  split_ifs
  · rw [busyWrite_abs, State.abs_abs]
  · exact acceptedByte_abs_abs v (clearStatus s)
  · rw [storeReg_abs, State.abs_abs]

theorem accessed_abs_abs (a : Option Access) (s : State) : (accessed a s.abs).abs = (accessed a s).abs := by
  match a with
  | none | some (.read _ _) => exact State.abs_abs s
  | some (.write off data) => exact written_abs_abs off _ s

/-- An edge before the last does not show beneath `State.abs`. -/
theorem countDown_abs {p : Pending} {s : State} (hp : s.pend = some p) : (countDown p s).abs = s.abs := by
  rw [State.abs, State.abs, hp]
  rfl

theorem readReg_abs (off : Nat) (s : State) : readReg off s.abs = readReg off s := by
  have hstatus : status s.abs = status s := by simp [status, busy]
  simp [readReg, hstatus]

theorem readData_abs (c : PortCycle) (s : State) : readData c s.abs = readData c s := by
  simp only [readData, readReg_abs]

/-! The events of a cycle. -/

/-- The events of a legal access do what the access does, and return what it reads. -/
theorem runEvents_accessEvents_append {a : Option Access} (hlegal : a.bind accessRefusal = none) (fs : List Event) (s : State) :
    runEvents (accessEvents a ++ fs) s =
      (runEvents fs (accessed a s)).map fun r => (r.1, (readData { rst := false, access := a } s).toList ++ r.2) := by
  match a with
  | none => simp [accessEvents, accessed, readData]
  | some (.read off bytes) =>
    obtain ⟨-, hoff⟩ := accessRefusal_read hlegal
    cases h : runEvents fs s <;> simp [accessEvents, runEvents, eventStep, hoff, accessed, readData, h]
  | some (.write off data) =>
    obtain ⟨v, rfl, hoff⟩ := accessRefusal_write hlegal
    cases h : runEvents fs (written off v s) <;>
      simp [accessEvents, runEvents, eventStep, hoff, writeReg_eq_written, accessed, readData, h]

/-- The engine's edge after the access: the completion event where it is due, and otherwise nothing that shows. -/
theorem runEvents_engineEdge {s u v : State} (habs : u.abs = v.abs) (hpend : ∀ p, s.pend = some p → v.pend = some p) :
    ∃ w, runEvents (if completesNow s then [.engineComplete] else []) u = some (w, []) ∧ w.abs = (engineEdge s.pend v).abs := by
  obtain hp | ⟨p, hp⟩ := Option.eq_none_or_eq_some s.pend
  · exact ⟨u, by simp [completesNow, hp, runEvents], by rw [hp, habs]; rfl⟩
  · obtain hlast | hmore := le_or_gt p.remaining 1
    · obtain ⟨q, hq, hqp⟩ : ∃ q, u.pend = some q ∧ q.abs = p.abs := by
        have hmap : u.pend.map Pending.abs = some p.abs := by rw [← State.abs_pend, habs, State.abs_pend, hpend p hp]; rfl
        exact Option.map_eq_some_iff.1 hmap
      refine ⟨complete q u, by simp [completesNow, hp, hlast, runEvents, eventStep, hq], ?_⟩
      calc (complete q u).abs
        _ = complete q.abs u.abs := (complete_abs q u).symm
        _ = complete p.abs v.abs := by rw [hqp, habs]
        _ = (complete p v).abs := complete_abs p v
        _ = (engineEdge s.pend v).abs := by rw [hp, engineEdge_of_le_one hlast]
    · refine ⟨u, by simp [completesNow, hp, Nat.not_le.2 hmore, runEvents], ?_⟩
      rw [hp, engineEdge_of_one_lt hmore, countDown_abs (hpend p hp), habs]

/-- Settles O35: a reset cycle is the reset event; in any other the access commutes with forgetting, and the edge is a completion or
does not show. -/
theorem clockedEngineRefinesStepRelation : Obligations.ClockedEngineRefinesStepRelation := by
  intro s t hstep
  obtain ⟨hlegal, rfl⟩ := step_next hstep
  rw [takeCycle_snd s]
  generalize (takeCycle s).1 = c at hlegal
  generalize (takeCycle s).2.port = port
  have haccess : c.access.bind accessRefusal = none := by simpa [cycleLegal] using hlegal
  cases hrst : c.rst with
  | true =>
    refine ⟨resetEdge s.abs, [], by simp [cycleEvents, hrst, runEvents, eventStep], ?_, nofun⟩
    rw [cycled_of_rst hrst]
    rfl
  | false =>
    have habs : (accessed c.access s.abs).abs =
        (accessed c.access { s with rdata := readData c { s with port := port }, port := port }).abs :=
      accessed_abs_abs c.access { s with rdata := readData c { s with port := port }, port := port }
    obtain ⟨w, hrun, hw⟩ := runEvents_engineEdge habs (s := s) fun _ hp => accessed_pend_of_busy c.access hp
    refine ⟨w, (readData c s).toList, ?_, ?_, fun _ => ?_⟩
    · have hc : c = { rst := false, access := c.access } := by rw [← hrst]
      rw [cycleEvents, hrst, if_neg Bool.false_ne_true, runEvents_accessEvents_append haccess, hrun, ← hc, readData_abs]
      simp
    · rw [hw, cycled, hrst]
      rfl
    · rw [cycled_rdata]
      rfl

end Sys2Proof.Machine
end

section
/-! What the host sees of time (spec/70_reset_and_hazards.md R277): the view after each operation is read off the view before it, so
states with one view keep one view. -/

namespace Sys2Proof.Machine

section Congr
variable {s t : State} (h : timingView s = timingView t)
include h

theorem pend_isSome_of_timingView : s.pend.isSome = t.pend.isSome := by
  have hpend := congrArg (fun v => v.inFlight.isSome) h
  simpa [timingView] using hpend

/-! Every command but TRANSFORM, and every rejection, changes the view without a look at the registers; TRANSFORM looks at ksv. -/

theorem timingView_goBusy_congr (op : BusyOp) (d : Bool) : timingView (goBusy op d s) = timingView (goBusy op d t) :=
  congrArg (fun v => { v with inFlight := some (op, d, Config.cmdCycles op) }) h

theorem timingView_setDone_congr : timingView (setDone s) = timingView (setDone t) :=
  congrArg (fun v => { v with done := true }) h

theorem timingView_clearStatus_congr : timingView (clearStatus s) = timingView (clearStatus t) :=
  congrArg (fun v => { v with done := false, err := 0 }) h

theorem timingView_raise_congr (e : EngineError) : timingView (raise e s) = timingView (raise e t) :=
  congrArg (fun v => { v with err := if v.err = 0 then errorCode e else v.err }) h

theorem timingView_rejectWith_congr (e : EngineError) : timingView (rejectWith e s) = timingView (rejectWith e t) :=
  timingView_setDone_congr (timingView_raise_congr h e)

theorem timingView_accepted_congr (i : Instr) : timingView (accepted i s) = timingView (accepted i t) := by
  cases i with
  | nop => exact timingView_setDone_congr h
  | transform =>
    have hksv : s.ksv = t.ksv := congrArg TimingView.ksv h
    simp only [accepted, issueTransform, hksv]
    split
    · exact timingView_goBusy_congr h .transform false
    · exact timingView_rejectWith_congr h .noSchedule
  | encrypt | decrypt | ksloadE | ksloadD | kserase => exact timingView_goBusy_congr h _ _

theorem timingView_acceptedByte_congr (v : Byte) : timingView (acceptedByte v s) = timingView (acceptedByte v t) := by
  unfold acceptedByte
  cases decodeByte v with
  | ok i => exact timingView_accepted_congr h i
  | error e => exact timingView_rejectWith_congr h .illegalCmd

theorem timingView_busyWrite_congr (off : Nat) : timingView (busyWrite off s) = timingView (busyWrite off t) := by
  unfold busyWrite
  split_ifs
  · exact timingView_raise_congr h .writeWhileBusy
  · exact h

omit h in
theorem timingView_storeReg (off : Nat) (v : Byte) (s : State) : timingView (storeReg off v s) = timingView s := by
  simp [timingView]

theorem timingView_written_congr (off : Nat) (v : Byte) : timingView (written off v s) = timingView (written off v t) := by
  simp only [written, pend_isSome_of_timingView h]
  split_ifs
  · exact timingView_busyWrite_congr h off
  · exact timingView_acceptedByte_congr (timingView_clearStatus_congr h) v
  · rw [timingView_storeReg, timingView_storeReg, h]

theorem timingView_accessed_congr (a : Option Access) : timingView (accessed a s) = timingView (accessed a t) := by
  match a with
  | none | some (.read _ _) => exact h
  | some (.write off data) => exact timingView_written_congr h off _

/-! The edge: of the command in flight it looks at the operation, the direction and the cycles left alone. -/

theorem timingView_countDown_congr {p q : Pending} (hop : p.op = q.op) (hd : p.d = q.d) (hremaining : p.remaining = q.remaining) :
    timingView (countDown p s) = timingView (countDown q t) := by
  have hs (u : State) (r : Pending) : timingView (countDown r u) =
      { timingView u with inFlight := some (r.op, r.d, r.remaining - 1) } := rfl
  rw [hs, hs, hop, hd, hremaining, h]

theorem timingView_complete_congr {p q : Pending} (hop : p.op = q.op) (hd : p.d = q.d) :
    timingView (complete p s) = timingView (complete q t) := by
  cases p with | mk op d pkey pdin m =>
  cases q with | mk op' d' qkey qdin n =>
  obtain rfl : op = op' := hop
  obtain rfl : d = d' := hd
  cases op with
  | crypt | kserase => exact congrArg (fun v => { v with inFlight := none, done := true, ksv := false, ksdir := false }) h
  | ksload => exact congrArg (fun v => { v with inFlight := none, done := true, ksv := true, ksdir := d }) h
  | transform => exact congrArg (fun v => { v with inFlight := none, done := true }) h

theorem timingView_engineEdge_congr {o o' : Option Pending}
    (ho : (o.map fun p => (p.op, p.d, p.remaining)) = o'.map fun p => (p.op, p.d, p.remaining)) :
    timingView (engineEdge o s) = timingView (engineEdge o' t) := by
  match o, o', ho with
  | none, none, _ => exact h
  | some p, some q, ho =>
    obtain ⟨hop, hd, hremaining⟩ : p.op = q.op ∧ p.d = q.d ∧ p.remaining = q.remaining := by simpa using ho
    obtain hlast | hmore := le_or_gt p.remaining 1
    · rw [engineEdge_of_le_one hlast, engineEdge_of_le_one (hremaining ▸ hlast)]
      exact timingView_complete_congr h hop hd
    · rw [engineEdge_of_one_lt hmore, engineEdge_of_one_lt (hremaining ▸ hmore)]
      exact timingView_countDown_congr h hop hd hremaining

theorem timingView_cycled_congr (c : PortCycle) : timingView (cycled c s) = timingView (cycled c t) := by
  cases hrst : c.rst with
  | true =>
    rw [cycled_of_rst hrst, cycled_of_rst hrst]
    exact congrArg (fun v => { timingView State.reset with port := v.port }) h
  | false =>
    simp only [cycled, hrst, Bool.false_eq_true, if_false]
    have hread : timingView { s with rdata := readData c s } = timingView { t with rdata := readData c t } := h
    exact timingView_engineEdge_congr (timingView_accessed_congr hread c.access) (congrArg TimingView.inFlight h)

/-- The cycles to come are in the view, so both states take the same one. -/
theorem takeCycle_congr : (takeCycle s).1 = (takeCycle t).1 ∧ timingView (takeCycle s).2 = timingView (takeCycle t).2 := by
  have hport : s.port = t.port := congrArg TimingView.port h
  cases hs : s.port with
  | nil =>
    rw [takeCycle_nil hs, takeCycle_nil (hport ▸ hs)]
    exact ⟨rfl, h⟩
  | cons c rest =>
    rw [takeCycle_cons hs, takeCycle_cons (hport ▸ hs)]
    exact ⟨rfl, congrArg (fun v => { v with port := rest }) h⟩

end Congr

/-- Settles O36: states with one view take the same cycle from the port, which is refused in both or does the same to the view. -/
theorem timingIndependentOfKeyAndData : Obligations.TimingIndependentOfKeyAndData := by
  intro s₁ s₂ h
  obtain ⟨hcycle, hview⟩ := takeCycle_congr h
  rw [step_eq, step_eq, ← hcycle]
  cases hrefusal : (takeCycle s₁).1.access.bind accessRefusal with
  | some r => rw [clockCycle_of_refusal hrefusal, clockCycle_of_refusal hrefusal]
  | none =>
    have hlegal : cycleLegal (takeCycle s₁).1 = true := by simp [cycleLegal, hrefusal]
    rw [clockCycle_of_legal hlegal, clockCycle_of_legal hlegal]
    exact congrArg Host.Outcome.next (timingView_cycled_congr hview _)

end Sys2Proof.Machine
end

section
/-! What can change a register (spec/10_state.md R20-R27, spec/60_exceptions.md R239), by the shapes of a step: the results of a command
appear at reset and at a completion, KEY and DIN change by a store at an idle engine, and a read shows no key. -/

namespace Sys2Proof.Machine

theorem accessed_dout (a : Option Access) (s : State) : (accessed a s).dout = s.dout := by
  obtain ⟨key, din, done, err, pend, h⟩ := accessed_frame a s
  rw [h]

theorem accessed_schedule (a : Option Access) (s : State) :
    (accessed a s).ks = s.ks ∧ (accessed a s).ksv = s.ksv ∧ (accessed a s).ksdir = s.ksdir := by
  obtain ⟨key, din, done, err, pend, h⟩ := accessed_frame a s
  rw [h]
  exact ⟨rfl, rfl, rfl⟩

/-- Settles O32: of the shapes of a step, reset zeroes DOUT, the completions of CRYPT and TRANSFORM write it whole, and the others
leave it. -/
theorem doutChangesOnlyAtCompletion : Obligations.DoutChangesOnlyAtCompletion := by
  intro s t hstep
  cases step_shape hstep with
  | reset r port n hrst => exact .inr (.inl ⟨hrst, rfl⟩)
  | idle r port _ _ => exact .inl (accessed_dout _ _)
  | countDown p r port e _ _ _ _ => exact .inl rfl
  | complete p r port e _ hp hlast _ =>
    cases hop : p.op with
    | crypt => exact .inr (.inr ⟨p, hp, hlast, rfl, rfl, .inl ⟨hop, by simp [commitResults, hop]⟩⟩)
    | transform => exact .inr (.inr ⟨p, hp, hlast, rfl, rfl, .inr ⟨hop, by simp [commitResults, hop]⟩⟩)
    | ksload | kserase => exact .inl (by simp [commitResults, hop])

/-- Settles O33: of the shapes of a step, reset and the completions of CRYPT and KSERASE erase the schedule, the completion of KSLOAD
loads it, and the others leave it. -/
theorem scheduleChangesOnlyAtCompletion : Obligations.ScheduleChangesOnlyAtCompletion := by
  intro s t hstep
  cases step_shape hstep with
  | reset r port n hrst => exact .inr (.inl ⟨hrst, rfl, rfl, rfl⟩)
  | idle r port _ _ => exact .inl (accessed_schedule _ _)
  | countDown p r port e _ _ _ _ => exact .inl ⟨rfl, rfl, rfl⟩
  | complete p r port e _ hp hlast _ =>
    cases hop : p.op with
    | crypt => exact .inr (.inr ⟨p, hp, hlast, rfl, rfl, .inl ⟨.inl hop, by simp [commitResults, hop]⟩⟩)
    | kserase => exact .inr (.inr ⟨p, hp, hlast, rfl, rfl, .inl ⟨.inr hop, by simp [commitResults, hop]⟩⟩)
    | ksload => exact .inr (.inr ⟨p, hp, hlast, rfl, rfl, .inr ⟨hop, by simp [commitResults, hop]⟩⟩)
    | transform => exact .inl (by simp [commitResults, hop])

/-! KEY and DIN. -/

theorem acceptedByte_key_din (v : Byte) (s : State) : (acceptedByte v s).key = s.key ∧ (acceptedByte v s).din = s.din := by
  obtain ⟨pend, done, err, h⟩ := acceptedByte_frame v s
  rw [h]
  exact ⟨rfl, rfl⟩

theorem storeReg_key_eq_or (off : Nat) (v : Byte) (s : State) :
    (storeReg off v s).key = s.key ∨ (8 ≤ off ∧ off ≤ 15 ∧ (storeReg off v s).key = s.key.setIfInBounds (off - 8) v) := by
  unfold storeReg
  split_ifs with hkey hdin
  · exact .inr ⟨hkey.1, hkey.2, rfl⟩
  · exact .inl rfl
  · exact .inl rfl

theorem storeReg_din_eq_or (off : Nat) (v : Byte) (s : State) :
    (storeReg off v s).din = s.din ∨ (16 ≤ off ∧ off ≤ 23 ∧ (storeReg off v s).din = s.din.setIfInBounds (off - 16) v) := by
  unfold storeReg
  split_ifs with hkey hdin
  · exact .inl rfl
  · exact .inr ⟨hdin.1, hdin.2, rfl⟩
  · exact .inl rfl

/-- A cycle with an access is a cycle of the port's list, not the idle cycle of an empty one. -/
theorem port_of_takeCycle_access {s : State} {c : PortCycle} (h : (takeCycle s).1 = c) (haccess : c.access.isSome = true) :
    ∃ rest, s.port = c :: rest := by
  cases hport : s.port with
  | nil =>
    rw [takeCycle_nil hport] at h
    subst h
    cases haccess
  | cons c' rest =>
    rw [takeCycle_cons hport] at h
    exact ⟨rest, congrArg (· :: rest) h⟩

/-- Settles O34: of the shapes of a step without reset only an access at an idle engine can change KEY or DIN, and of the accesses
only a store, which changes the byte at its offset. -/
theorem keyAndDinChangeOnlyByHostWrites : Obligations.KeyAndDinChangeOnlyByHostWrites := by
  intro s t hstep hrst
  obtain ⟨hlegal, -⟩ := step_next hstep
  have haccess : (takeCycle s).1.access.bind accessRefusal = none := by simpa [cycleLegal] using hlegal
  cases step_shape hstep with
  | reset r port n hrst' => simp [hrst] at hrst'
  | countDown p r port e _ _ _ _ => exact ⟨.inl rfl, .inl rfl⟩
  | complete p r port e _ _ _ _ => exact ⟨.inl (by simp), .inl (by simp)⟩
  | idle r port _ hp =>
    obtain h | ⟨v, h⟩ | ⟨off, v, hwrite, h⟩ :=
      accessed_idle_cases haccess (s := { s with rdata := r, port := port }) hp <;> rw [h]
    · exact ⟨.inl rfl, .inl rfl⟩
    · obtain ⟨hkey, hdin⟩ := acceptedByte_key_din v (clearStatus { s with rdata := r, port := port })
      exact ⟨.inl hkey, .inl hdin⟩
    · have hcycle : (takeCycle s).1 = writeCycle off v := by rw [writeCycle, ← hrst, ← hwrite]
      obtain ⟨rest, hport⟩ := port_of_takeCycle_access hcycle rfl
      constructor
      · obtain hkey | ⟨hlow, hhigh, hkey⟩ := storeReg_key_eq_or off v { s with rdata := r, port := port } <;> rw [hkey]
        · exact .inl rfl
        · exact .inr ⟨hp, off, v, rest, hport, hlow, hhigh, fun j => byteAt_setIfInBounds s.key v⟩
      · obtain hdin | ⟨hlow, hhigh, hdin⟩ := storeReg_din_eq_or off v { s with rdata := r, port := port } <;> rw [hdin]
        · exact .inl rfl
        · exact .inr ⟨hp, off, v, rest, hport, hlow, hhigh, fun j => byteAt_setIfInBounds s.din v⟩

/-! Reads. -/

theorem readReg_congr {s t : State} (hdin : s.din = t.din) (hdout : s.dout = t.dout) (hstatus : status s = status t) (off : Nat) :
    readReg off s = readReg off t := by
  rw [readReg, readReg, hdin, hdout, hstatus]

theorem step_rdata {s t : State} (h : step s = .next t) : t.rdata = readData (takeCycle s).1 s := by
  obtain ⟨-, rfl⟩ := step_next h
  rw [cycled_rdata, takeCycle_snd]
  rfl

/-- Settles O37: the value a step returns is a register's at the start of its cycle, and every register that can be read is DIN, DOUT
or STATUS. -/
theorem keyAndScheduleAreNotReadable : Obligations.KeyAndScheduleAreNotReadable := by
  intro s₁ s₂ t₁ t₂ hport hdin hdout hstatus hstep₁ hstep₂
  have hcycle : (takeCycle s₁).1 = (takeCycle s₂).1 := by
    rw [takeCycle, takeCycle, hport]
    cases s₂.port <;> rfl
  rw [step_rdata hstep₁, step_rdata hstep₂, hcycle]
  simp only [readData, readReg_congr hdin hdout hstatus]

end Sys2Proof.Machine
end

section
/-! The other commands from issue to completion (spec/45_commands.md R203-R206): each that goes busy commits by its operation, on the
snapshots of its issue. -/

namespace Sys2Proof.Machine

/-- A command that goes busy, from its issue at an idle engine to its completion: until then DOUT and KS stay, and then the
operation's results stand on the registers of the issue (R211, R212). -/
theorem exec_goBusy_completes {i : Instr} {op : BusyOp} {d : Bool} {s : State} (hs : s.pend = none)
    (hi : accepted i (clearStatus s) = goBusy op d (clearStatus s)) :
    ∃ n, exec i s = .next (goBusy op d (clearStatus s)) ∧
      (∀ k < Config.cmdCycles op, ∃ v, quietRun k (goBusy op d (clearStatus s)) = .next v ∧ busy v = true ∧
        v.dout = s.dout ∧ v.ks = s.ks) ∧
      quietRun (Config.cmdCycles op) (goBusy op d (clearStatus s)) =
        .next { complete (snapshot op d (clearStatus s)) (clearStatus s) with
          err := 0, rdata := none, port := [], freeCount := n } := by
  obtain ⟨n, hn⟩ := quietRun_goBusy op d (clearStatus s)
  exact ⟨n, by rw [exec_of_idle i hs, hi], fun _ => quietRun_busy (goBusy_pend op d (clearStatus s)), hn⟩

/-- STATUS of an idle engine with DONE = 1, no error and a schedule loaded: KSV and DONE, and KSDIR by the direction (R25). -/
theorem status_eq_done_loaded {s : State} (d : Bool) (hp : s.pend = none) (hdone : s.done = true) (herr : s.err = 0)
    (hksv : s.ksv = true) (hksdir : s.ksdir = d) : status s = if d then 0x0E else 0x06 := by
  cases d <;> simp [status, busy, hp, hdone, herr, hksv, hksdir, bitByte]

/-- Settles O9: the issue takes the snapshots, and the completion of CRYPT commits the transform under the decrypt schedule and
erases KS. -/
theorem decryptCompletes : Obligations.DecryptCompletes := by
  refine ⟨fun s hs => ?_, fun s => exec_of_busy .decrypt, by decide +kernel⟩
  obtain ⟨n, hissue, hbusy, hdone⟩ := exec_goBusy_completes (i := .decrypt) hs rfl
  refine ⟨_, _, n, hissue, rfl, fun k hk => ?_, hdone, rfl, status_eq_done rfl rfl rfl rfl rfl⟩
  obtain ⟨v, hv, hbusy, hdout, -⟩ := hbusy k hk
  exact ⟨v, hv, hbusy, hdout⟩

/-- Settles O10: the completion of KSLOAD writes the schedule of the key snapshot in the direction of the issue, encrypt. -/
theorem ksloadEncryptCompletes : Obligations.KsloadEncryptCompletes := by
  refine ⟨fun s hs => ?_, fun s => exec_of_busy .ksloadE, by decide +kernel⟩
  obtain ⟨n, hissue, hbusy, hdone⟩ := exec_goBusy_completes (i := .ksloadE) hs rfl
  refine ⟨_, _, n, hissue, rfl, fun k hk => ?_, hdone, rfl, status_eq_done_loaded false rfl rfl rfl rfl rfl⟩
  obtain ⟨v, hv, hbusy, -, hks⟩ := hbusy k hk
  exact ⟨v, hv, hbusy, hks⟩

/-- Settles O11: the completion of KSLOAD writes the schedule of the key snapshot in the direction of the issue, decrypt. -/
theorem ksloadDecryptCompletes : Obligations.KsloadDecryptCompletes := by
  refine ⟨fun s hs => ?_, fun s => exec_of_busy .ksloadD, by decide +kernel⟩
  obtain ⟨n, hissue, hbusy, hdone⟩ := exec_goBusy_completes (i := .ksloadD) hs rfl
  refine ⟨_, _, n, hissue, rfl, fun k hk => ?_, hdone, rfl, status_eq_done_loaded true rfl rfl rfl rfl rfl⟩
  obtain ⟨v, hv, hbusy, -, hks⟩ := hbusy k hk
  exact ⟨v, hv, hbusy, hks⟩

/-- TRANSFORM with a loaded schedule goes busy (R206). -/
theorem accepted_transform_of_schedule {s : State} (hksv : s.ksv = true) : accepted .transform s = goBusy .transform false s := by
  simp [accepted, issueTransform, hksv]

/-- Settles O12: with ksv = 1 the issue is accepted, and the completion of TRANSFORM reads KS and leaves it. -/
theorem transformCompletesWithSchedule : Obligations.TransformCompletesWithSchedule := by
  refine ⟨fun s hs hksv => ?_, fun s => exec_of_busy .transform⟩
  obtain ⟨n, hissue, hbusy, hdone⟩ :=
    exec_goBusy_completes hs (accepted_transform_of_schedule (s := clearStatus s) hksv)
  refine ⟨_, _, n, hissue, rfl, fun k hk => ?_, hdone, rfl⟩
  obtain ⟨v, hv, hbusy, hdout, -⟩ := hbusy k hk
  exact ⟨v, hv, hbusy, hdout⟩

/-- Settles O13: the issue rejects TRANSFORM for want of ksv, and STATUS then shows DONE and NO_SCHEDULE beside ksdir. -/
theorem transformWithoutScheduleIsRejected : Obligations.TransformWithoutScheduleIsRejected := by
  refine fun s hs hksv => ⟨exec_transform_of_no_schedule hs hksv, fun hksdir => ⟨_, exec_transform_of_no_schedule hs hksv, ?_⟩⟩
  rw [status_done_err hs, status_and_scheduleBits, hksv, hksdir]
  rfl

end Sys2Proof.Machine
end

section
/-! Steps at the port (spec/45_commands.md R211, R214; spec/30_encoding.md R76; spec/70_reset_and_hazards.md R263-R265, R275): when a
step stops, the write of a command, eight stores in ascending order, and the first poll. -/

namespace Sys2Proof.Machine

/-! When a step stops. -/

theorem step_ne_fault (s : State) (f : Fault) : step s ≠ .fault f := nomatch f

theorem step_eq_refused_iff (s : State) (r : Refusal) :
    step s = .refused r ↔ (takeCycle s).1.access.bind accessRefusal = some r := by
  refine ⟨fun h => ?_, fun h => clockCycle_of_refusal h _⟩
  obtain ⟨-, hs⟩ | ⟨r', hr', hs⟩ := step_cases s
  · rw [hs] at h
    cases h
  · rw [hs] at h
    rw [hr', Host.Outcome.refused.inj h]

theorem exists_step_eq_next_iff (s : State) : (∃ t, step s = .next t) ↔ cycleLegal (takeCycle s).1 = true :=
  ⟨fun ⟨_, ht⟩ => (step_next ht).1, fun h => ⟨_, clockCycle_of_legal h _⟩⟩

/-- Settles O21: `Fault` is empty, and whether a step is refused or answers a next state is decided by the access of its cycle, which
an idle port does not have. -/
theorem stepStopsOnlyOnAccessesThePortLacks : Obligations.StepStopsOnlyOnAccessesThePortLacks := by
  refine fun s => ⟨step_ne_fault s, fun r => ?_, ?_⟩
  · rw [step_eq_refused_iff]
    cases hport : s.port with
    | nil => simp [takeCycle_nil hport, idleCycle]
    | cons c rest => simp [takeCycle_cons hport, Option.bind_eq_some_iff]
  · rw [exists_step_eq_next_iff]
    cases hport : s.port with
    | nil => simp [takeCycle_nil hport, cycleLegal, idleCycle]
    | cons c rest => simp [takeCycle_cons hport]

/-! The write of a command. -/

/-- A cycle that writes a command's byte to CTRL: the command's meaning, and then the edge (R51, R211). -/
theorem step_of_command {s : State} {c : Byte} {i : Instr} {rest : List PortCycle} (hport : s.port = writeCycle 0x00 c :: rest)
    (hdecode : decodeByte c = .ok i) : step s = afterAccess s.pend (exec i { s with port := rest, rdata := none }) := by
  have hstep : step s = afterAccess s.pend (writeCtrl c { s with port := rest, rdata := none }) := by
    rw [step_eq, takeCycle_cons hport]
    rfl
  rw [hstep, writeCtrl, hdecode]

theorem step_of_command_idle {s : State} {c : Byte} {i : Instr} {rest : List PortCycle} (hport : s.port = writeCycle 0x00 c :: rest)
    (hdecode : decodeByte c = .ok i) (hs : s.pend = none) : step s = exec i { s with port := rest, rdata := none } := by
  rw [step_of_command hport hdecode, hs, exec_eq_issue]
  rfl

theorem decodeByte_encodeByte (i : Instr) : decodeByte (encodeByte i) = .ok i := by cases i <;> decide

theorem fetchCycle_encodeByte (i : Instr) : fetchCycle 8 (encodeByte i).toNat = writeCycle 0x00 (encodeByte i) := by
  cases i <;> decide

theorem step_withFetchWord {s : State} (i : Instr) (hs : s.pend = none) :
    step (s.withFetchWord 8 (encodeByte i).toNat) = exec i { s with rdata := none } :=
  step_of_command_idle (s := s.withFetchWord 8 (encodeByte i).toNat)
    (congrArg (· :: s.port) (fetchCycle_encodeByte i)) (decodeByte_encodeByte i) hs

/-- Settles O6: the byte is decoded at the write, and an idle engine has no edge to come after it. -/
theorem stepRunsDecodedCommand : Obligations.StepRunsDecodedCommand :=
  ⟨fun _ _ _ _ hport hdecode => ⟨step_of_command hport hdecode, step_of_command_idle hport hdecode⟩,
   fun _ i => step_withFetchWord i⟩

/-- Settles O28: the reset state's registers, and the issue of each command, which does not record WRITE_WHILE_BUSY. -/
theorem resetStateIsIdleWithDefaultKey : Obligations.ResetStateIsIdleWithDefaultKey := by
  refine ⟨rfl, rfl, rfl, by decide, rfl, fun i => ?_⟩
  have hexec : exec i State.reset = .next (accepted i (clearStatus State.reset)) := exec_of_idle i rfl
  refine ⟨_, (step_withFetchWord i rfl).trans hexec, hexec, ?_⟩
  rw [accepted_clearStatus_err]
  split_ifs <;> decide

/-! The first poll. -/

theorem step_of_read {s : State} {off : Nat} {rest : List PortCycle} (hoff : off ≤ 31) (hport : s.port = readCycle off :: rest) :
    step s = .next (engineEdge s.pend { s with port := rest, rdata := some (readReg off s) }) := by
  rw [step_of_legal hport (cycleLegal_readCycle hoff), cycled_readCycle]
  rfl

/-- Settles O23: the issue is over at the edge that ends its cycle, so the read in the next one finds it done (R275). -/
theorem firstPollSeesIssuedCommand : Obligations.FirstPollSeesIssuedCommand := by
  intro s i rest hs hport
  have hissue : step s = exec i { s with port := readCycle 0x01 :: rest, rdata := none } :=
    step_of_command_idle hport (decodeByte_encodeByte i) hs
  have hexec := exec_of_idle (s := { s with port := readCycle 0x01 :: rest, rdata := none }) i hs
  obtain ⟨pend, done, err, hframe⟩ := accepted_frame i (clearStatus { s with port := readCycle 0x01 :: rest, rdata := none })
  have hpoll := step_of_read (s := accepted i (clearStatus { s with port := readCycle 0x01 :: rest, rdata := none }))
    (off := 0x01) (rest := rest) (by decide) (by rw [hframe]; rfl)
  have hrun := (run_succ_of_next 1 (hissue.trans hexec)).trans (run_succ_of_next 0 hpoll)
  exact ⟨_, _, hexec, hrun, engineEdge_rdata _ _⟩

/-! Eight stores. -/

theorem storeReg_setPort (off : Nat) (v : Byte) (s : State) (port : List PortCycle) (r : Option Byte) :
    storeReg off v { s with port := port, rdata := r } = { storeReg off v s with port := port, rdata := r } := by
  unfold storeReg
  split_ifs <;> rfl

theorem step_of_store {s : State} {off : Nat} (hs : s.pend = none) (hoff : 1 ≤ off ∧ off ≤ 31) (v : Byte) (rest : List PortCycle)
    (r : Option Byte) :
    step { s with port := writeCycle off v :: rest, rdata := r } = .next { storeReg off v s with port := rest, rdata := none } := by
  have hctrl : off ≠ 0 := Nat.ne_of_gt hoff.1
  have hcycle : cycled (writeCycle off v) { s with port := rest, rdata := r } =
      storeReg off v { s with port := rest, rdata := none } := by
    simp [cycled, writeCycle, readData, accessed, written, hs, hctrl]
  rw [step_of_legal rfl (cycleLegal_writeCycle hoff.2 v), ← storeReg_setPort]
  exact congrArg _ hcycle

/-- The first `n` bytes of `b` stored over `x`, in ascending order. -/
def storeBytes (b x : Bytes8) (n : Nat) : Bytes8 :=
  (List.range n).foldl (fun y i => y.setIfInBounds i (byteAt b i)) x

theorem storeBytes_succ (b x : Bytes8) (n : Nat) : storeBytes b x (n + 1) = (storeBytes b x n).setIfInBounds n (byteAt b n) := by
  rw [storeBytes, List.range_succ, List.foldl_append]
  rfl

theorem byteAt_storeBytes (b x : Bytes8) (n : Nat) {j : Nat} (hj : j < 8) :
    byteAt (storeBytes b x n) j = if j < n then byteAt b j else byteAt x j := by
  induction n with
  | zero => rfl
  | succ n ih =>
    rw [storeBytes_succ, byteAt_setIfInBounds _ _ hj, ih]
    obtain h | rfl | h := Nat.lt_trichotomy j n
    · simp [h, h.ne, Nat.lt_succ_of_lt h]
    · simp
    · simp [h.ne', Nat.not_lt.2 h.le, Nat.not_lt.2 (Nat.succ_le_of_lt h)]

theorem storeBytes_eight (b x : Bytes8) : storeBytes b x 8 = b :=
  bytes8_ext fun i hi => by rw [byteAt_storeBytes b x 8 hi, if_pos hi]

/-- Writes in ascending order from `base`, where `put x` is the idle state with the bytes `x` in the register at `base`: the
register takes the bytes written. -/
theorem run_ascendingWrites {base : Nat} {put : Bytes8 → State} (hbase : 1 ≤ base ∧ base + 7 ≤ 31)
    (hidle : ∀ x, (put x).pend = none)
    (hstore : ∀ i < 8, ∀ x v, storeReg (base + i) v (put x) = put (x.setIfInBounds i v))
    (b x : Bytes8) {n : Nat} (hn : n < 8) (rest : List PortCycle) :
    Host.Core.run Sys2Proof.core (n + 1)
        { put x with port := ((List.range (n + 1)).map fun i => writeCycle (base + i) (byteAt b i)) ++ rest } =
      .next { put (storeBytes b x (n + 1)) with port := rest, rdata := none } := by
  have hstep (y : Bytes8) {i : Nat} (hi : i < 8) (rest : List PortCycle) (r : Option Byte) :
      step { put y with port := writeCycle (base + i) (byteAt b i) :: rest, rdata := r } =
        .next { put (y.setIfInBounds i (byteAt b i)) with port := rest, rdata := none } := by
    rw [step_of_store (hidle y) (by omega), hstore i hi]
  induction n generalizing rest with
  | zero => exact run_succ_of_next 0 (hstep x hn rest (put x).rdata)
  | succ n ih =>
    rw [List.range_succ, List.map_append, List.append_assoc, run_add 1 (ih (Nat.lt_of_succ_lt hn) _), storeBytes_succ b x (n + 1)]
    exact run_succ_of_next 0 (hstep _ hn rest none)

/-- Settles O22: each of the eight writes stores one byte of KEY, or of DIN, and eight bytes are all of it. -/
theorem eightWritesStoreKeyOrBlock : Obligations.EightWritesStoreKeyOrBlock := by
  intro s b rest hs
  constructor
  · have hrun := run_ascendingWrites (base := 0x08) (put := fun x => { s with key := x }) (by decide) (fun _ => hs)
      (fun i hi x v => (storeReg_of_key (by omega) v _).trans (by simp)) b s.key (n := 7) (by decide) rest
    rwa [storeBytes_eight] at hrun
  · have hrun := run_ascendingWrites (base := 0x10) (put := fun x => { s with din := x }) (by decide) (fun _ => hs)
      (fun i hi x v => (storeReg_of_din (by omega) v _).trans (by simp)) b s.din (n := 7) (by decide) rest
    rwa [storeBytes_eight] at hrun

end Sys2Proof.Machine
end

section
/-! Encoding, the window and STATUS (spec/30_encoding.md R70-R72, spec/20_memory.md R50, spec/10_state.md R25): each command's byte and
no other, the 32 offsets, and the bits of the status byte. -/

namespace Sys2Proof.Machine

/-- Each command's byte and no other (R71, R72): a byte with a nonzero Z is neither decoded nor a command's, and the low sixteen are
looked up. -/
theorem decodeByte_eq_ok_iff (c : Byte) (i : Instr) : decodeByte c = .ok i ↔ c = encodeByte i := by
  by_cases hz : c.extractLsb' 4 4 = 0
  · have hlow : ∀ n : Fin 16, decodeByte (BitVec.ofNat 8 n) = .ok i ↔ BitVec.ofNat 8 n = encodeByte i := by cases i <;> decide
    simpa using hlow ⟨c.toNat, (z_eq_zero_iff c).1 hz⟩
  · have hencode : (encodeByte i).extractLsb' 4 4 = 0 := by cases i <;> rfl
    have hne : c ≠ encodeByte i := fun h => hz (h ▸ hencode)
    simp [decodeByte_of_z_ne_zero hz, hne]

theorem wellFormed_encode (i : Instr) : i.wellFormed = true := by cases i <;> rfl

/-- Settles O3: a command's encoding is its one byte, the only byte that decodes to it. -/
theorem encodeDecodeAgree : Obligations.EncodeDecodeAgree :=
  ⟨decodeByte_eq_ok_iff, fun i => ⟨decodeByte_encodeByte i, wellFormed_encode i⟩, by decide⟩

/-! The window. -/

theorem windowOffset_eq_some_iff (base addr off : Nat) : windowOffset base addr = some off ↔ off ≤ 31 ∧ addr = base + off := by
  unfold windowOffset
  split_ifs with h
  · rw [Option.some_inj]
    omega
  · simp only [false_iff]
    omega

/-- Settles O5: an address has an offset just when it lies at most 31 above the base, and then the offset is the difference. -/
theorem windowOffsetsAreThirtyTwo : Obligations.WindowOffsetsAreThirtyTwo := by
  have hoffset (base : Nat) {off : Nat} (h : off ≤ 31) : windowOffset base (base + off) = some off :=
    (windowOffset_eq_some_iff base (base + off) off).2 ⟨h, rfl⟩
  refine ⟨fun base _ => hoffset base, fun base addr off => (windowOffset_eq_some_iff base addr off).1, fun off v h => ?_⟩
  simp only [accessAtAddress, hoffset Config.engineBase h, Option.map_some, and_self]

/-! STATUS. -/

/-- Settles O24: the five parts of the status byte do not overlap, whatever their values. -/
theorem statusLayout : Obligations.StatusLayout := by
  intro s
  have hlayout : ∀ (err : BitVec 3) (ksdir ksv done busy : Bool) (b : Byte),
      b = (err.zeroExtend 8 <<< 4) ||| (bitByte ksdir <<< 3) ||| (bitByte ksv <<< 2) ||| (bitByte done <<< 1) ||| bitByte busy →
      b.getLsbD 0 = busy ∧ b.getLsbD 1 = done ∧ b.getLsbD 2 = ksv ∧ b.getLsbD 3 = ksdir ∧ b.extractLsb' 4 3 = err ∧
        b.getLsbD 7 = false := by
    rintro err ksdir ksv done busy _ rfl
    revert err ksdir ksv done busy
    decide
  exact hlayout s.err s.ksdir s.ksv s.done (busy s) _ rfl

end Sys2Proof.Machine
end

section
/-! The raw schedule and what the rounds read of a schedule (spec/41_key_schedule.md R121-R125, spec/44_rounds.md R171, R179): the
selections that fill a raw word, and the bits of a subkey word that no window holds. -/

namespace Sys2Proof.Machine

/-- Settles O41: BYTEBIT counts from the least significant end, and PC1 selects none of the bits 7, so no schedule reads them. -/
theorem keyBitsReadFromLeastSignificant : Obligations.KeyBitsReadFromLeastSignificant :=
  ⟨fun key j _ => keyBit_eq_getLsbD key (PC1.getD j 0), fun j _ => (pc1_getD_lt j).2.ne, fun _ _ d h => schedule_congr h d⟩

/-! Raw words. -/

theorem toNat_BIGBYTE_lt (j : Nat) : (BIGBYTE j).toNat < 2 ^ 24 := by
  have hbit : ∀ m ≤ 23, ((1 : Word) <<< m).toNat < 2 ^ 24 := by decide
  exact hbit (23 - j) (Nat.sub_le 23 j)

theorem toNat_rawHalf_lt (bits : Nat → Bool) (off : Nat) : (rawHalf bits off).toNat < 2 ^ 24 := by
  have hfold : ∀ (l : List Nat) (a : Word), a.toNat < 2 ^ 24 →
      (l.foldl (fun r j => if bits (PC2.getD (j + off) 0) then r ||| BIGBYTE j else r) a).toNat < 2 ^ 24 := by
    intro l
    induction l with
    | nil => exact fun a ha => ha
    | cons j l ih =>
      intro a ha
      rw [List.foldl_cons]
      refine ih _ ?_
      split_ifs
      · rw [BitVec.toNat_or]
        exact Nat.or_lt_two_pow ha (toNat_BIGBYTE_lt j)
      · exact ha
  exact hfold (List.range 24) 0 (by decide)

/-! The slot map and its inverse (R122): reversal for decrypt, which is its own inverse, and the identity for encrypt. -/

theorem slotM_eq (d : Bool) (i : Nat) : slotM d i = 2 * roundOfSlot d i := by cases d <;> rfl

theorem roundOfSlot_lt (d : Bool) {i : Nat} (hi : i < 16) : roundOfSlot d i < 16 := by
  unfold roundOfSlot
  split_ifs <;> omega

theorem roundOfSlot_roundOfSlot (d : Bool) {i : Nat} (hi : i < 16) : roundOfSlot d (roundOfSlot d i) = i := by
  unfold roundOfSlot
  split_ifs <;> omega

theorem two_mul_eq_slotM_iff (d : Bool) {i w : Nat} (hi : i < 16) (hw : w < 16) : 2 * w = slotM d i ↔ i = roundOfSlot d w := by
  rw [slotM_eq, Nat.mul_right_inj two_ne_zero]
  constructor
  · rintro rfl
    exact (roundOfSlot_roundOfSlot d hi).symm
  · rintro rfl
    exact (roundOfSlot_roundOfSlot d hw).symm

/-- The raw words of a round stand at its slot (R124, R125). -/
theorem ksWord_raw_slotM (key : Bytes8) (d : Bool) {i : Nat} (hi : i < 16) :
    ksWord (raw key d) (slotM d i) = rawHalf (pcr key i) 0 ∧ ksWord (raw key d) (slotM d i + 1) = rawHalf (pcr key i) 24 := by
  have hpair {b : Nat} (hb : b < 2) := ksWord_raw_pair key d (roundOfSlot_lt d hi) hb
  simp only [roundOfSlot_roundOfSlot d hi] at hpair
  rw [slotM_eq]
  exact ⟨hpair (b := 0) (by decide), hpair (b := 1) (by decide)⟩

/-- Settles O42: the slot map is a bijection, and the words at a round's slot are the PC2 selections of its rotated halves, 24 bits
each. -/
theorem rawWordsFillTheirSlots : Obligations.RawWordsFillTheirSlots := by
  refine fun key d => ⟨?_, ?_, ?_, ?_⟩
  · rintro i hi _ rfl j hj
    obtain ⟨hC, hD⟩ := ksWord_raw_slotM key d hi
    exact ⟨(congrArg (BitVec.getLsbD · (23 - j)) hC).trans (getLsbD_rawHalf _ 0 hj),
      (congrArg (BitVec.getLsbD · (23 - j)) hD).trans (getLsbD_rawHalf _ 24 hj)⟩
  · intro i _ j hj
    have hD : ¬ 28 + j < 28 := by omega
    simp only [pcr, hj, hD, if_true, if_false, Nat.add_sub_cancel_left, true_and]
  · exact fun w hw => ⟨roundOfSlot d w, ⟨roundOfSlot_lt d hw, (two_mul_eq_slotM_iff d (roundOfSlot_lt d hw) hw).2 rfl⟩,
      fun i ⟨hi, hslot⟩ => (two_mul_eq_slotM_iff d hi hw).1 hslot⟩
  · intro w hw
    rw [ksWord_raw key d hw]
    split_ifs
    · exact toNat_rawHalf_lt _ 0
    · exact toNat_rawHalf_lt _ 24

/-! Bits outside the windows. -/

theorem window_of_and_mask {m : Word} (h : m &&& 0x3f3f3f3f = 0) {lo : Nat} (hlo : lo ∈ [0, 8, 16, 24]) : window m lo = 0 := by
  have hmask : ∀ lo ∈ [0, 8, 16, 24], window 0x3f3f3f3f lo = BitVec.allOnes 6 := by decide
  calc window m lo
    _ = window m lo &&& window 0x3f3f3f3f lo := by rw [hmask lo hlo, BitVec.and_allOnes]
    _ = window (m &&& 0x3f3f3f3f) lo := BitVec.extractLsb'_and.symm
    _ = 0 := by rw [h]; exact BitVec.extractLsb'_zero

section Windows
variable {m : Word} (h : m &&& 0x3f3f3f3f = 0) (w : Word)
include h

theorem lookupOdd_xor_of_and_mask : lookupOdd (w ^^^ m) = lookupOdd w := by
  simp [lookupOdd, window_xor, window_of_and_mask h]

theorem lookupEven_xor_of_and_mask : lookupEven (w ^^^ m) = lookupEven w := by
  simp [lookupEven, window_xor, window_of_and_mask h]

end Windows

theorem revPairs_schedule_of_eq {key : Bytes8} (h : schedule key false = schedule key true) :
    revPairs (schedule key false) = schedule key false := by
  rw [← schedule_true, h]

/-- Settles O53: F looks up the windows alone, the zero block's result is computed, and equal schedules are one that is its own
reverse. -/
theorem subkeyBitsOutsideWindowsAreIgnored : Obligations.SubkeyBitsOutsideWindowsAreIgnored := by
  refine ⟨fun x ka kb ma mb ha hb => ?_, by decide +kernel,
    fun key b h => transform_transform_of_revPairs_eq (revPairs_schedule_of_eq h) b⟩
  rw [roundF, roundF, ← BitVec.xor_assoc, ← BitVec.xor_assoc, lookupOdd_xor_of_and_mask ha, lookupEven_xor_of_and_mask hb]

end Sys2Proof.Machine
end
